-- ==== Sys2Proof/Word.lean ====
section
/-! DEFINITION. The fixed-width words of the tachometer front-end: its frame bytes, its 16-bit fields and the three
packed vectors of 30_encoding.md (R71, R72, R78). -/

namespace Sys2Proof

/-- One byte of a serial frame (R53). -/
abbrev Byte := BitVec 8

/-- A 16-bit port, register or frame field: `adc_data`, `ts`, `prev_ts`, `volt_q`, ... (R20, R70). -/
abbrev Half := BitVec 16

/-- The input vector of one cycle (R71). -/
abbrev IV := BitVec 35

/-- The output vector of one cycle (R72). -/
abbrev OV := BitVec 34

/-- The decode vector of one cycle (R78). -/
abbrev DV := BitVec 7

end Sys2Proof
end

