-- ==== Sys2Proof/Config.lean ====
section
/-! DEFINITION. The implementation parameters of 00_scope.md R5. The OPEN ones are opaque: no proof can see their value, so a
claim holds for every value. -/

namespace Sys2Proof

/-- The parameters `P` of the model shape `step(P, s, in)` (R5, R16): constants fixed when the block is built (R7). -/
structure Params where
  /-- `ADC_W`: bits of a converted sample. OPEN, 8 to 16. -/
  adcW : Nat
  /-- `WIN`: the tracker's window length in samples. Default 1024. -/
  win : Nat
  /-- `HIGH_TH`: the edge detector's high threshold. Default 30. -/
  highTh : Nat
  /-- `TIMEOUT`: the silent interval in ticks. Default 50000. -/
  timeout : Nat
  /-- `HEADER`: frame byte 0. OPEN. -/
  header : Byte
  /-- `PM_PREV_RESET`: `prev_ts` after reset. OPEN. -/
  pmPrevReset : Half
  /-- `PM_TO_RESET`: `timed_out` after reset. OPEN. -/
  pmToReset : Bool
  /-- `TICK_HZ`: the tick rate. OPEN, and no rule reads it (R188). -/
  tickHz : Nat
  deriving DecidableEq, Repr

/-- `LOW_TH = HIGH_TH div 4` (R6): derived, never set by itself. -/
def Params.lowTh (p : Params) : Nat := p.highTh / 4

/-- `HIDX_W = ceil(log2(WIN))`, the width of the history index (R5). -/
def Params.hidxW (p : Params) : Nat := Nat.clog 2 p.win

/-- `SUM_W = ADC_W + ceil(log2(WIN))`, the width of the running sum (R5, R27). -/
def Params.sumW (p : Params) : Nat := p.adcW + p.hidxW

/-- `FRAME_SIZE`: bytes of a frame (R5). -/
def Config.frameSize : Nat := 8

/-- `ADC_W - 8`, OPEN in 0 to 8 (R5, D8; log 1). -/
opaque Config.adcWOver8 : Fin 9

/-- `HEADER`, OPEN (R5, D15; log 1). -/
opaque Config.header : Byte

/-- `PM_PREV_RESET`, OPEN (R5, D13; log 1). -/
opaque Config.pmPrevReset : Half

/-- `PM_TO_RESET`, OPEN (R5, D13; log 1). -/
opaque Config.pmToReset : Bool

/-- `TICK_HZ - 1`, OPEN (R5, D29; log 1). -/
opaque Config.tickHzPred : Nat

/-- The environment's choice of input vector in a cycle for which no input was given (R16: "the environment's choice of
inputs"), one free value per cycle number (log 3). -/
opaque Config.envInput : Nat → IV

/-- The parameters of the block that `State.reset` is built with: the defaults of R5, and a free value for each OPEN one
(log 1, log 2). -/
def Config.params : Params where
  adcW := 8 + Config.adcWOver8.val
  win := 1024
  highTh := 30
  timeout := 50000
  header := Config.header
  pmPrevReset := Config.pmPrevReset
  pmToReset := Config.pmToReset
  tickHz := Config.tickHzPred + 1

end Sys2Proof
end

