-- ==== Sys2Proof/Syntax.lean ====
section
/-! DEFINITION. The operations of the block, one constructor per row of spec/opcode_table.json, the small enumerations of
30_encoding.md section 2, and the stimulus notation of R85. -/

namespace Sys2Proof

/-- The operations: the nine rows that a decode vector selects (R79) and the five sub-operations that one of those rows
invokes (R80). No row has an operand field: operands are ports and registers (R82). -/
inductive Instr where
  /-- RESET (R151). -/
  | reset
  /-- RESERVED_SEQ (R158). -/
  | reservedSeq
  /-- DRAIN_ONE (R132). -/
  | drainOne
  /-- CONV_START (R152). -/
  | convStart
  /-- IGNORE_DONE (R154). -/
  | ignoreDone
  /-- WAIT (R153). -/
  | wait
  /-- SAMPLE_OPTO (R155). -/
  | sampleOpto
  /-- SAMPLE_VOLT (R156). -/
  | sampleVolt
  /-- SAMPLE_CURR (R157). -/
  | sampleCurr
  /-- DC_UPDATE (R100), invoked by SAMPLE_OPTO. -/
  | dcUpdate
  /-- EDGE_DETECT (R111), invoked by SAMPLE_OPTO. -/
  | edgeDetect
  /-- PERIOD_OBSERVE (R120), invoked by SAMPLE_OPTO. -/
  | periodObserve
  /-- TRY_SEND (R131), invoked by SAMPLE_CURR. -/
  | trySend
  /-- FRAME_ENCODE (R130), invoked by TRY_SEND. -/
  | frameEncode
  deriving DecidableEq, Repr

/-- The publish event of the period monitor (R17, R76). -/
inductive PublishEvent where
  /-- Nothing is published. -/
  | none
  /-- `Measured(p)`: a period of `p` ticks. -/
  | measured (p : Half)
  /-- `TimedOut`: the first sample after more than `TIMEOUT` silent ticks. -/
  | timedOut
  deriving DecidableEq, Repr

/-- What TRY_SEND did in a cycle (R77). -/
inductive SendOutcome where
  /-- No TRY_SEND in this cycle. -/
  | none
  /-- The frame was accepted. -/
  | accepted
  /-- The frame was rejected and an Overrun raised. -/
  | rejected
  deriving DecidableEq, Repr

/-- The channel a conversion is started on (R73). -/
inductive Channel where
  | optical
  | voltage
  | current
  deriving DecidableEq, Repr

/-- The input ports of one cycle (R70), less the clock. -/
structure Inputs where
  rst : Bool
  adcDone : Bool
  txReady : Bool
  adcData : Half
  ts : Half
  deriving DecidableEq, Repr

/-- The output ports of one cycle (R70). -/
structure Outputs where
  pulseOut : Bool
  statusOut : Bool
  adcStart : Bool
  adcCh : BitVec 2
  txWe : Bool
  txData : Byte
  pubValid : Bool
  pubKind : Bool
  pubPeriod : Half
  sendEv : BitVec 2
  deriving DecidableEq, Repr

/-- The fields of a serial frame (R81). -/
structure FrameFields where
  period : Half
  voltage : Half
  current : Half
  deriving DecidableEq, Repr

/-- One form of the stimulus notation (R85). Numbers stand as they are written; `Form.wf` gives their ranges. -/
inductive Form where
  /-- `RESET` -/
  | reset
  /-- `IDLE` or `IDLE RDY` -/
  | idle (rdy : Bool)
  /-- `CONV d, t` or `CONV d, t RDY` -/
  | conv (d t : Nat) (rdy : Bool)
  /-- `REPEAT n f` -/
  | times (n : Nat) (f : Form)
  /-- `IV hex` -/
  | raw (v : Nat)
  deriving DecidableEq, Repr

/-- One line of a stimulus program (R85): a form with an optional label and comment, which have no encoding. -/
structure Line where
  label : Option String
  form : Form
  comment : Option String
  deriving DecidableEq, Repr

end Sys2Proof
end

