-- ==== Sys2Proof/WellFormed.lean ====
section
/-! DEFINITION. The checks on terms: legal parameters (R5, R6), legal stimulus numbers (R85), and which lists of operations
can fire together in one cycle (R79, R80, R150). -/

namespace Sys2Proof

/-- The constraints of R5 and 93_implementation_defined.md section 2 on the parameters. -/
abbrev Params.Wf (p : Params) : Prop :=
  8 ≤ p.adcW ∧ p.adcW ≤ 16 ∧ 1 ≤ p.win ∧ 1 ≤ p.highTh ∧ 1 ≤ p.timeout ∧ p.timeout < 2 ^ 16 ∧ 1 ≤ p.tickHz

/-- A stimulus form's numbers fit the fields they fill (R71, R85). -/
def Form.wf : Form → Bool
  | .reset => true
  | .idle _ => true
  | .conv d t _ => decide (d < 2 ^ 16) && decide (t < 2 ^ 16)
  | .times _ f => f.wf
  | .raw v => decide (v < 2 ^ 35)

/-- A stimulus line is well formed when its form is. -/
def Line.wf (l : Line) : Bool := l.form.wf

/-- The operations that a decode vector selects directly: the rows of R79, not the sub-operations of R80. An instruction is
well formed as a decoded one exactly when it is one of these. -/
def Instr.wf : Instr → Bool
  | .reset => true
  | .reservedSeq => true
  | .drainOne => true
  | .convStart => true
  | .ignoreDone => true
  | .wait => true
  | .sampleOpto => true
  | .sampleVolt => true
  | .sampleCurr => true
  | .dcUpdate => false
  | .edgeDetect => false
  | .periodObserve => false
  | .trySend => false
  | .frameEncode => false

/-- The operation that invokes a sub-operation (R80); a top-level operation is its own. -/
def Instr.parent : Instr → Instr
  | .dcUpdate => .sampleOpto
  | .edgeDetect => .sampleOpto
  | .periodObserve => .sampleOpto
  | .trySend => .sampleCurr
  | .frameEncode => .trySend
  | .reset => .reset
  | .reservedSeq => .reservedSeq
  | .drainOne => .drainOne
  | .convStart => .convStart
  | .ignoreDone => .ignoreDone
  | .wait => .wait
  | .sampleOpto => .sampleOpto
  | .sampleVolt => .sampleVolt
  | .sampleCurr => .sampleCurr

/-- The sequencer phase of a cycle: exactly one branch, with IGNORE_DONE only behind CONV_START (R79, R150). -/
def sequencerPhases : List (List Instr) :=
  [[.convStart], [.convStart, .ignoreDone], [.wait], [.sampleOpto], [.sampleVolt], [.sampleCurr]]

/-- The lists of operations one cycle can run, in the order of R150: RESET alone, RESERVED_SEQ alone, or a sequencer phase
with or without a DRAIN_ONE before it. -/
def cycleWf (ops : List Instr) : Bool :=
  ops == [.reset] || ops == [.reservedSeq] || sequencerPhases.contains ops ||
    (sequencerPhases.map (Instr.drainOne :: ·)).contains ops

end Sys2Proof
end

