-- ==== Sys2Proof/Decode.lean ====
section
/-! DEFINITION. The encodings of 30_encoding.md: the decode vector and its mask/match rows (R78 to R80), the input and output
vectors (R71, R72), the enumerations (R73, R76, R77), the frame fields (R81) and the stimulus notation (R85); a decoder
and, after it, an encoder. -/

namespace Sys2Proof

/-! ## Fields -/

/-- `trunc_n` of R9 on a 16-bit value, put back into 16 bits: the low `n` bits, zero-extended. -/
def lowBits (n : Nat) (v : Half) : Half := BitVec.ofNat 16 (v.toNat % 2 ^ n)

/-- `v[7:0]`. -/
def lowByte (v : Half) : Byte := v.extractLsb' 0 8

/-- `v[15:8]`. -/
def highByte (v : Half) : Byte := v.extractLsb' 8 8

/-- A 16-bit field from its two bytes, the least significant byte first (R55). -/
def halfOfBytes (lo hi : Byte) : Half := hi ++ lo

/-! ## The input vector (R71) -/

/-- IV[34]. -/
def ivRst (v : IV) : Bool := v.getLsbD 34

/-- IV[33]. -/
def ivAdcDone (v : IV) : Bool := v.getLsbD 33

/-- IV[32]. -/
def ivTxReady (v : IV) : Bool := v.getLsbD 32

/-- IV[31:16]. -/
def ivAdcData (v : IV) : Half := v.extractLsb' 16 16

/-- IV[15:0]. -/
def ivTs (v : IV) : Half := v.extractLsb' 0 16

/-- The input ports that an IV gives (R71). -/
def decodeIv (v : IV) : Inputs where
  rst := ivRst v
  adcDone := ivAdcDone v
  txReady := ivTxReady v
  adcData := ivAdcData v
  ts := ivTs v

/-! ## The output vector (R72) -/

/-- The output ports that an OV shows (R72). -/
def decodeOv (v : OV) : Outputs where
  pulseOut := v.getLsbD 0
  statusOut := v.getLsbD 1
  adcStart := v.getLsbD 2
  adcCh := v.extractLsb' 3 2
  txWe := v.getLsbD 5
  txData := v.extractLsb' 6 8
  pubValid := v.getLsbD 14
  pubKind := v.getLsbD 15
  pubPeriod := v.extractLsb' 16 16
  sendEv := v.extractLsb' 32 2

/-! ## Enumerations -/

/-- The channel of a code (R73); code 3 is reserved. -/
def decodeChannel (c : BitVec 2) : Option Channel :=
  if c = 0 then some .optical else if c = 1 then some .voltage else if c = 2 then some .current else none

/-- The publish event on (`pub_valid`, `pub_kind`, `pub_period`) (R76); `none` for the combinations never driven (R83). -/
def decodePublish (valid kind : Bool) (period : Half) : Option PublishEvent :=
  if valid then
    if kind then (if period = 0 then some .timedOut else none) else some (.measured period)
  else if kind = false ∧ period = 0 then some .none else none

/-- The send outcome of a `send_ev` code (R77); code 3 is reserved. -/
def decodeSend (c : BitVec 2) : Option SendOutcome :=
  if c = 0 then some .none else if c = 1 then some .accepted else if c = 2 then some .rejected else none

/-! ## The frame (R81) -/

/-- `sum8` of R11: the byte sum modulo 256. -/
def sum8 (bs : List Byte) : Byte := bs.foldl (· + ·) 0

/-- The fields a receiver reads from eight frame bytes (R81, R135); `none` for another number of bytes. -/
def decodeFrame : List Byte → Option FrameFields
  | [_, _, p0, p1, v0, v1, c0, c1] => some ⟨halfOfBytes p0 p1, halfOfBytes v0 v1, halfOfBytes c0 c1⟩
  | _ => none

/-! ## The decode vector and the operation map (R78 to R80) -/

/-- The mask of an operation's row of opcode_table.json (R79); a sub-operation carries its parent's (R80). -/
def Instr.mask : Instr → DV
  | .reset => 0b1000000#7
  | .reservedSeq => 0b1110000#7
  | .drainOne => 0b1000011#7
  | .convStart => 0b1001000#7
  | .ignoreDone => 0b1001100#7
  | .wait => 0b1001100#7
  | .sampleOpto => 0b1111100#7
  | .sampleVolt => 0b1111100#7
  | .sampleCurr => 0b1111100#7
  | .dcUpdate => 0b1111100#7
  | .edgeDetect => 0b1111100#7
  | .periodObserve => 0b1111100#7
  | .trySend => 0b1111100#7
  | .frameEncode => 0b1111100#7

/-- The match of an operation's row (R79, R80). -/
def Instr.pattern : Instr → DV
  | .reset => 0b1000000#7
  | .reservedSeq => 0b0110000#7
  | .drainOne => 0b0000011#7
  | .convStart => 0b0000000#7
  | .ignoreDone => 0b0000100#7
  | .wait => 0b0001000#7
  | .sampleOpto => 0b0001100#7
  | .sampleVolt => 0b0011100#7
  | .sampleCurr => 0b0101100#7
  | .dcUpdate => 0b0001100#7
  | .edgeDetect => 0b0001100#7
  | .periodObserve => 0b0001100#7
  | .trySend => 0b0101100#7
  | .frameEncode => 0b0101100#7

/-- A row's test on the decode vector: `(DV & mask) = match` (R78). -/
def rowMatches (v : DV) (i : Instr) : Bool := (v &&& i.mask) == i.pattern

/-- The top-level rows in the order in which R150 runs those that fire. -/
def cycleOrder : List Instr :=
  [.reset, .reservedSeq, .drainOne, .convStart, .ignoreDone, .wait, .sampleOpto, .sampleVolt, .sampleCurr]

/-- The operations that fire for a decode vector, in the order they run. Where RESERVED_SEQ's row matches, no other row fires
(R79, R150), though the masks of other rows match too (log 11). -/
def decode (v : DV) : List Instr :=
  if rowMatches v .reservedSeq then [.reservedSeq] else cycleOrder.filter (rowMatches v)

/-- Why a word is no decode vector. -/
inductive DecodeError where
  /-- The word has a bit above DV[6]: a decode vector has 7 bits (R78). -/
  | notADecodeVector
  deriving DecidableEq, Repr

/-- The operations of a word given as a number. -/
def decodeWord (w : Nat) : Except DecodeError (List Instr) :=
  if w < 2 ^ 7 then .ok (decode (BitVec.ofNat 7 w)) else .error .notADecodeVector

/-- The order in which one operation is picked out of several that fire together: DRAIN_ONE and IGNORE_DONE before the
sequencer operation they fire beside (log 12). -/
def namingOrder : List Instr :=
  [.reset, .reservedSeq, .drainOne, .ignoreDone, .convStart, .wait, .sampleOpto, .sampleVolt, .sampleCurr]

/-- The one operation a decode vector is called by, where one must be named (log 12). -/
def namedRow (v : DV) : Option Instr := namingOrder.find? (decode v).contains

/-- The operation of a table word of `nbits` bits: the named row of the decode vector; none above 7 bits (log 12). -/
def decodeTableWord (nbits w : Nat) : Option Instr :=
  if w < 2 ^ min nbits 7 then namedRow (BitVec.ofNat 7 w) else none

/-! ## The encoder -/

/-- The word of an operation: its row's match, with every don't-care bit 0 (R79, R80). -/
def encode (i : Instr) : DV := i.pattern

/-- The decode vector of its six fields (R78). -/
def encodeDv (rst : Bool) (seq : BitVec 2) (busy done ready pending : Bool) : DV :=
  BitVec.ofBool rst ++ seq ++ BitVec.ofBool busy ++ BitVec.ofBool done ++ BitVec.ofBool ready ++ BitVec.ofBool pending

/-- The input vector of a cycle's input ports (R71). -/
def encodeIv (x : Inputs) : IV :=
  BitVec.ofBool x.rst ++ BitVec.ofBool x.adcDone ++ BitVec.ofBool x.txReady ++ x.adcData ++ x.ts

/-- The output vector of a cycle's output ports (R72). -/
def encodeOv (x : Outputs) : OV :=
  x.sendEv ++ x.pubPeriod ++ BitVec.ofBool x.pubKind ++ BitVec.ofBool x.pubValid ++ x.txData ++ BitVec.ofBool x.txWe
    ++ x.adcCh ++ BitVec.ofBool x.adcStart ++ BitVec.ofBool x.statusOut ++ BitVec.ofBool x.pulseOut

/-- The code of a channel (R73). -/
def encodeChannel : Channel → BitVec 2
  | .optical => 0
  | .voltage => 1
  | .current => 2

/-- `pub_valid` of a publish event (R76). -/
def encodePubValid : PublishEvent → Bool
  | .none => false
  | .measured _ => true
  | .timedOut => true

/-- `pub_kind` of a publish event (R76). -/
def encodePubKind : PublishEvent → Bool
  | .none => false
  | .measured _ => false
  | .timedOut => true

/-- `pub_period` of a publish event (R76). -/
def encodePubPeriod : PublishEvent → Half
  | .none => 0
  | .measured p => p
  | .timedOut => 0

/-- The `send_ev` code of an outcome (R77). -/
def encodeSend : SendOutcome → BitVec 2
  | .none => 0
  | .accepted => 1
  | .rejected => 2

/-- The eight bytes of a frame: header, checksum over bytes 2 to 7, and three little-endian fields (R81, R130). -/
def encodeFrame (header : Byte) (f : FrameFields) : List Byte :=
  let payload := [lowByte f.period, highByte f.period, lowByte f.voltage, highByte f.voltage, lowByte f.current,
    highByte f.current]
  header :: sum8 payload :: payload

/-- The input vectors a stimulus form stands for, one a cycle (R85). -/
def encodeForm : Form → List IV
  | .reset => [encodeIv ⟨true, false, false, 0, 0⟩]
  | .idle rdy => [encodeIv ⟨false, false, rdy, 0, 0⟩]
  | .conv d t rdy => [encodeIv ⟨false, true, rdy, BitVec.ofNat 16 d, BitVec.ofNat 16 t⟩]
  | .times n f => (List.replicate n (encodeForm f)).flatten
  | .raw v => [BitVec.ofNat 35 v]

/-- The input vectors of a stimulus program; `none` where a line's numbers do not fit their fields (R85). -/
def assemble (ls : List Line) : Option (List IV) :=
  if ls.all Line.wf then some (ls.map (fun l => encodeForm l.form)).flatten else none

end Sys2Proof
end

