-- ==== Sys2Proof/Machine/State.lean ====
section
/-! DEFINITION. The state of the block (10_state.md), the reasons a step can stop, and the state after reset. -/

namespace Sys2Proof.Machine

/-- A memory as index and entry pairs, in one canonical form (`Memory.wf`, Machine/Memory.lean): indices strictly rising and no
entry equal to 0, which is what an unlisted index reads as (log 5). `Memory 8` is a list of `Host.Cell`. -/
abbrev Memory (w : Nat) := List (Nat × BitVec w)

/-- The block has no fault mechanism (R183; 93_implementation_defined.md: "`fault`: never used"), so nothing raises a
fault and the type is empty. -/
inductive Fault where
  deriving DecidableEq, Repr

/-- Why the model gives no step. Every reason but `notModelled` is a state that no run from reset reaches, which R38 and R83
tell a model to refuse; each is safe, since the model stops where the spec owes no behaviour. -/
inductive Refusal where
  /-- The host's: an operation that has no meaning yet. No arm of exec uses it. Safe. -/
  | notModelled (mnemonic : String)
  /-- RESERVED_SEQ: `seq = 3` (R38 item 1, R83, R158). Safe. -/
  | reservedSeq
  /-- A state with `tx_idx` in 9 to 15 (R38 item 6, R83): raised by the cycle, DRAIN_ONE and TRY_SEND. Safe. -/
  | reservedTxIdx
  /-- A state with `count > WIN` (R38 item 2, R83): raised by the cycle and DC_UPDATE. Safe. -/
  | reservedCount
  /-- A state with `hidx >= WIN` (R57, R83): raised by the cycle and DC_UPDATE. Safe. -/
  | reservedHidx
  /-- `count < WIN` and `hidx` is not `count` (R38 item 3): raised by the cycle. Safe. -/
  | fillSlotMismatch
  /-- `sum` is not the sum of the stored samples (R38 item 4): raised by the cycle, and by DC_UPDATE where `sum` is below
  the sample it evicts. Safe. -/
  | sumMismatch
  /-- `in_peak = 1` and `pulse_q = 0` (R38 item 5): raised by the cycle. Safe. -/
  | pulseMismatch
  /-- `volt_q` has a bit at or above ADC_W (R38 item 7): raised by the cycle. Safe. -/
  | voltRange
  /-- `seq` is VOLT or CURR, `timed_out = 1` and `pending_period` is not the 0 of the TimedOut published last (R31, R38
  item 8): raised by the cycle. Safe. -/
  | pendingMismatch
  /-- `status_q` is not `fail_latch` (R38 item 9): raised by the cycle. Safe. -/
  | statusMismatch
  /-- `HIST` is no memory of WIN entries of ADC_W bits in canonical form (R20, R50): raised by the cycle. Safe. -/
  | histRange
  /-- `FRAME` is no memory of 8 bytes in canonical form (R20, R53): raised by the cycle. Safe. -/
  | frameRange
  deriving DecidableEq, Repr

/-- The values R42 computes within one cycle and does not store. The MODEL holds them here while the operations of one cycle
hand them on; every cycle begins and ends with them idle (log 6). -/
structure Wires where
  /-- `dc`, DC_UPDATE's result (R100). -/
  dc : Nat
  /-- `ac`, the AC signal (R110). -/
  ac : Int
  /-- `edge_fired`, EDGE_DETECT's result (R111). -/
  edge : Bool
  /-- PERIOD_OBSERVE's result (R120). -/
  event : PublishEvent
  /-- FRAME_ENCODE's result, eight bytes (R130). -/
  bytes : List Byte
  /-- TRY_SEND's result (R131). -/
  ok : Bool
  deriving DecidableEq, Repr

/-- No value handed on. -/
def Wires.idle : Wires where
  dc := 0
  ac := 0
  edge := false
  event := .none
  bytes := []
  ok := false

/-- The idle value of every output port (R72). -/
def idleOutputs : Outputs where
  pulseOut := false
  statusOut := false
  adcStart := false
  adcCh := 0
  txWe := false
  txData := 0
  pubValid := false
  pubKind := false
  pubPeriod := 0
  sendEv := 0

/-- The architectural state: exactly the sixteen registers and memories of R20, and nothing else. -/
structure Registers where
  /-- `seq` (R22): 0 OPTO, 1 VOLT, 2 CURR, 3 reserved. -/
  seq : BitVec 2
  /-- `conv_busy` (R23). -/
  convBusy : Bool
  /-- `count` (R25), 0 to WIN. -/
  count : Nat
  /-- `hidx` (R26), 0 to WIN-1. -/
  hidx : Nat
  /-- `sum` (R27). -/
  sum : Nat
  /-- `HIST` (R24, R50): entries 0 to WIN-1 of ADC_W bits, in 16 bits as the legal range of R5 asks (log 8). -/
  hist : Memory 16
  /-- `in_peak` (R28). -/
  inPeak : Bool
  /-- `pulse_q` (R29). -/
  pulseQ : Bool
  /-- `prev_ts` (R30). -/
  prevTs : Half
  /-- `timed_out` (R31). -/
  timedOut : Bool
  /-- `pending_period` (R32). -/
  pendingPeriod : Half
  /-- `volt_q` (R33). -/
  voltQ : Half
  /-- `FRAME` (R34, R53): bytes 0 to 7. -/
  frame : Memory 8
  /-- `tx_idx` (R35): 0 to 7 pending, 8 IDLE, 9 to 15 reserved. -/
  txIdx : BitVec 4
  /-- `fail_latch` (R36). -/
  failLatch : Bool
  /-- `status_q` (R37). -/
  statusQ : Bool
  deriving DecidableEq, Repr

/-- The state of the model: the registers of R20, and beside them what the shape `step(P, s, in)` of R16 takes and answers
apart from `s`, which the step of this package has no other place for. No field here is a register of the block. -/
structure State extends Registers where
  /-- The model's: the parameters `P` of R16 (log 1). -/
  params : Params
  /-- The model's: the input vectors still to come, the current cycle's first (log 3). -/
  inputs : List IV
  /-- The model's: how many cycles have been stepped; it picks the free input vector where `inputs` is empty (log 3). -/
  cycle : Nat
  /-- The model's: the values handed on inside a cycle (log 6). -/
  wires : Wires
  /-- The model's: the output ports of the cycle last stepped, `out` of R16 (log 7). -/
  out : Outputs
  deriving DecidableEq, Repr

/-- The block built with parameters `p`, right after reset: the reset column of R20 (R200). -/
def State.resetOf (p : Params) : State where
  seq := 0
  convBusy := false
  count := 0
  hidx := 0
  sum := 0
  hist := []
  inPeak := false
  pulseQ := false
  prevTs := p.pmPrevReset
  timedOut := p.pmToReset
  pendingPeriod := 0
  voltQ := 0
  frame := []
  txIdx := 8
  failLatch := false
  statusQ := false
  params := p
  inputs := []
  cycle := 0
  wires := Wires.idle
  out := idleOutputs

/-- The machine right after reset (R200), with the parameters of R5. -/
def State.reset : State := State.resetOf Config.params

end Sys2Proof.Machine
end

