-- ==== Sys2Proof/Machine/Memory.lean ====
section
/-! DEFINITION. The two internal memories' primitives (R13) and their canonical form. -/

namespace Sys2Proof.Machine

/-- `MemRead`: the entry at index `a`; an unlisted index reads as 0 (R13, log 5). -/
def Memory.read {w : Nat} : Memory w → Nat → BitVec w
  | [], _ => 0#w
  | (b, x) :: m, a => if a = b then x else Memory.read m a

/-- `MemWrite`: store `v` at index `a` and keep the canonical form (R13). -/
def Memory.write {w : Nat} : Memory w → Nat → BitVec w → Memory w
  | [], a, v => if v = 0#w then [] else [(a, v)]
  | (b, x) :: m, a, v =>
    if a < b then (if v = 0#w then (b, x) :: m else (a, v) :: (b, x) :: m)
    else if a = b then (if v = 0#w then m else (a, v) :: m)
    else (b, x) :: Memory.write m a v

/-- The canonical form above a lower bound: indices at least `k`, strictly rising, no entry 0. -/
def Memory.wfFrom {w : Nat} : Nat → Memory w → Bool
  | _, [] => true
  | k, (b, x) :: m => decide (k ≤ b) && decide (x ≠ 0#w) && Memory.wfFrom (b + 1) m

/-- The canonical form: indices strictly rising and no entry equal to what an unlisted index reads as. -/
def Memory.wf {w : Nat} (m : Memory w) : Bool := Memory.wfFrom 0 m

/-- A memory of `n` entries with values below `bound`, in canonical form (R20, R50, R53). -/
def Memory.fits {w : Nat} (n bound : Nat) (m : Memory w) : Bool :=
  m.wf && m.all fun c => decide (c.1 < n) && decide (c.2.toNat < bound)

/-- The sum of the entries at indices below `n`. -/
def Memory.sumBelow {w : Nat} : Memory w → Nat → Nat
  | [], _ => 0
  | (b, x) :: m, n => (if b < n then x.toNat else 0) + Memory.sumBelow m n

/-- Store a list of entries at consecutive indices from `k` on. -/
def Memory.writeFrom {w : Nat} (m : Memory w) : Nat → List (BitVec w) → Memory w
  | _, [] => m
  | k, v :: vs => Memory.writeFrom (m.write k v) (k + 1) vs

/-- The `n` entries from index `k` on. -/
def Memory.readFrom {w : Nat} (m : Memory w) : Nat → Nat → List (BitVec w)
  | _, 0 => []
  | k, n + 1 => m.read k :: Memory.readFrom m (k + 1) n

end Sys2Proof.Machine
end

