-- ==== Sys2Proof/Machine/Operands.lean ====
section
/-! DEFINITION. Operand assembly (R82): what each operation reads from the ports and the registers, and the values computed from
them (R10, R78, R110). -/

namespace Sys2Proof.Machine

/-- The input vector of the current cycle: the first of those given, else the environment's free choice (R16, log 3). -/
def State.iv (s : State) : IV :=
  match s.inputs with
  | v :: _ => v
  | [] => Config.envInput s.cycle

/-- Port `rst` (R70). -/
def State.rst (s : State) : Bool := ivRst s.iv

/-- Port `adc_done` (R70). -/
def State.adcDone (s : State) : Bool := ivAdcDone s.iv

/-- Port `tx_ready` (R70). -/
def State.txReady (s : State) : Bool := ivTxReady s.iv

/-- `adc_data[ADC_W-1:0]`, zero-extended to 16 bits: the optical sample in SAMPLE_OPTO, the voltage or current field in
SAMPLE_VOLT and SAMPLE_CURR (R82). Bits at and above ADC_W are ignored (R84). -/
def State.sample (s : State) : Half := lowBits s.params.adcW (ivAdcData s.iv)

/-- The timestamp `ts[15:0]` (R82). -/
def State.ts (s : State) : Half := ivTs s.iv

/-- Wraparound-correct subtraction `(a - b) mod 2^16` (R10). -/
def tsdiff (a b : Half) : Half := a - b

/-- `d` of PERIOD_OBSERVE: the ticks since the baseline, modulo 2^16 (R120). -/
def State.elapsed (s : State) : Half := tsdiff s.ts s.prevTs

/-- The AC signal `s - dc`, signed (R110), with the `dc` that DC_UPDATE handed on. -/
def State.acSignal (s : State) : Int := (s.sample.toNat : Int) - (s.wires.dc : Int)

/-- The history entry that DC_UPDATE evicts at capacity (R52, R100). -/
def State.oldest (s : State) : Half := s.hist.read s.hidx

/-- The three fields of the frame that TRY_SEND is given: `pending_period`, `volt_q` and this cycle's current sample (R82,
R131, R157). -/
def State.frameFields (s : State) : FrameFields := ⟨s.pendingPeriod, s.voltQ, s.sample⟩

/-- The transmitter-busy flag `tx_idx != 8` (R39, R75). -/
def State.txPending (s : State) : Bool := s.txIdx != 8

/-- The decode vector, from the start-of-cycle state and the inputs (R78). -/
def State.dv (s : State) : DV :=
  encodeDv s.rst s.seq s.convBusy s.adcDone s.txReady s.txPending

/-- The packed output vector of the cycle last stepped (R72). -/
def State.ov (s : State) : OV := encodeOv s.out

end Sys2Proof.Machine
end

