-- ==== Sys2Proof/Machine/Flags.lean ====
section
/-! DEFINITION. The flags (R39) and the level registers beside them: what EDGE_DETECT makes of `in_peak` and `pulse_q` (R111), and
what PERIOD_OBSERVE makes of `timed_out` and `prev_ts` (R120). -/

namespace Sys2Proof.Machine

/-- `ac > HIGH_TH`, compared as integers (R8, R82). -/
def State.aboveHigh (s : State) : Bool := decide (s.acSignal > (s.params.highTh : Int))

/-- `ac < LOW_TH`, compared as integers (R8, R82). -/
def State.belowLow (s : State) : Bool := decide (s.acSignal < (s.params.lowTh : Int))

/-- EDGE_DETECT's result: the entry into in-peak (R111, first row of the table). -/
def State.edgeFired (s : State) : Bool := !s.inPeak && s.aboveHigh

/-- `in_peak` after EDGE_DETECT (R111). -/
def State.nextInPeak (s : State) : Bool := if s.inPeak then !s.belowLow else s.aboveHigh

/-- `pulse_q` after EDGE_DETECT: unchanged in both in-peak rows of the table (R111, C4). -/
def State.nextPulse (s : State) : Bool := if s.inPeak then s.pulseQ else s.aboveHigh

/-- `tsdiff(t, prev_ts) > TIMEOUT`, strict (R120). -/
def State.silent (s : State) : Bool := decide (s.elapsed.toNat > s.params.timeout)

/-- PERIOD_OBSERVE's result: the source's four rules, tested in order (R120). -/
def State.monitorEvent (s : State) : PublishEvent :=
  if s.wires.edge && s.timedOut then .none
  else if s.wires.edge then .measured s.elapsed
  else if s.silent && !s.timedOut then .timedOut
  else .none

/-- `timed_out` after PERIOD_OBSERVE: cleared by source rule 1, set by source rule 3 (R120). -/
def State.nextTimedOut (s : State) : Bool :=
  if s.wires.edge && s.timedOut then false
  else if s.wires.edge then s.timedOut
  else if s.silent && !s.timedOut then true
  else s.timedOut

/-- `prev_ts` after PERIOD_OBSERVE: the sample's timestamp in source rules 1, 2 and 3 (R120). -/
def State.nextPrevTs (s : State) : Half :=
  if s.wires.edge then s.ts
  else if s.silent && !s.timedOut then s.ts
  else s.prevTs

end Sys2Proof.Machine
end

