-- ==== Sys2Proof/Machine/Ops.lean ====
section
/-! DEFINITION. The shared operations: emitting ports (R15, R72), the one error event (R14, R180), and the bodies that the
meanings are written over. The block has no trap entry and no return from one (R186), so Overrun is all there is to taking
an exception. -/

namespace Sys2Proof.Machine

/-- The outcome of an operation. -/
abbrev Result := Host.Outcome State Fault Refusal

/-- Run `f` on the state an operation leaves; a fault or a refusal ends the cycle. -/
def andThen (o : Result) (f : State → Result) : Result :=
  match o with
  | .next s => f s
  | .fault r => .fault r
  | .refused r => .refused r

/-! ## The error event -/

/-- `raise Overrun()`: `fail_latch <- 1` and nothing else; no change of control flow (R14, R180). -/
def State.raiseOverrun (s : State) : State := { s with failLatch := true }

/-! ## Ports -/

/-- Drive `adc_start = 1` and `adc_ch = seq` (R152). -/
def State.emitStart (s : State) : State :=
  { s with out := { s.out with adcStart := true, adcCh := s.seq } }

/-- Drive `tx_we = 1` and `tx_data` (R132). -/
def State.emitByte (s : State) (b : Byte) : State :=
  { s with out := { s.out with txWe := true, txData := b } }

/-- Drive the publish ports (R76). -/
def State.emitPublish (s : State) (e : PublishEvent) : State :=
  { s with out :=
      { s.out with pubValid := encodePubValid e, pubKind := encodePubKind e, pubPeriod := encodePubPeriod e } }

/-- Drive `send_ev` (R77). -/
def State.emitSend (s : State) (e : SendOutcome) : State :=
  { s with out := { s.out with sendEv := encodeSend e } }

/-! ## The cycle's frame -/

/-- The start of a cycle: nothing handed on yet, every strobe and observation port idle, and the registered ports showing
`pulse_q`, `status_q` and `seq` as they stand (R72). -/
def State.beginCycle (s : State) : State :=
  { s with
    wires := Wires.idle
    out := { idleOutputs with pulseOut := s.pulseQ, statusOut := s.statusQ, adcCh := s.seq } }

/-- The clock edge that ends a cycle: the input vector is used up and nothing handed on inside the cycle remains (R42, R85). -/
def State.endCycle (s : State) : State :=
  { s with wires := Wires.idle, inputs := s.inputs.tail, cycle := s.cycle + 1 }

/-! ## Reset -/

/-- Every register to its reset value, `HIST` and `FRAME` unchanged; every port but the two registered ones 0 (R72, R151). -/
def State.resetRegisters (s : State) : State :=
  { s with
    seq := 0
    convBusy := false
    count := 0
    hidx := 0
    sum := 0
    inPeak := false
    pulseQ := false
    prevTs := s.params.pmPrevReset
    timedOut := s.params.pmToReset
    pendingPeriod := 0
    voltQ := 0
    txIdx := 8
    failLatch := false
    statusQ := false
    wires := Wires.idle
    out := { idleOutputs with pulseOut := s.pulseQ, statusOut := s.statusQ } }

/-! ## The DC-offset tracker -/

/-- Fewer than `WIN` samples have been seen (R100). -/
def State.filling (s : State) : Bool := decide (s.count < s.params.win)

/-- The fill branch of DC_UPDATE with sample `x` (R100). -/
def State.trackerFill (s : State) (x : Half) : State :=
  { s with
    hist := s.hist.write s.hidx x
    sum := s.sum + x.toNat
    count := s.count + 1
    hidx := (s.hidx + 1) % s.params.win
    wires := { s.wires with dc := (s.sum + x.toNat) / (s.count + 1) } }

/-- The branch of DC_UPDATE at capacity, with sample `x` (R100). -/
def State.trackerEvict (s : State) (x : Half) : State :=
  { s with
    hist := s.hist.write s.hidx x
    sum := s.sum - s.oldest.toNat + x.toNat
    hidx := (s.hidx + 1) % s.params.win
    wires := { s.wires with dc := (s.sum - s.oldest.toNat + x.toNat) / s.params.win } }

/-- A tracker state that DC_UPDATE cannot run on: an index or a count out of range (R57, R83), or a sum below the sample to
evict, which R38 item 4 excludes (log 13). -/
def State.trackerBroken (s : State) : Option Refusal :=
  if s.params.win < s.count then some .reservedCount
  else if s.params.win ≤ s.hidx then some .reservedHidx
  else if !s.filling && decide (s.sum < s.oldest.toNat) then some .sumMismatch
  else none

/-- DC_UPDATE's body (R100): fold in the optical sample and hand on `dc`. -/
def dcUpdate (s : State) : Result :=
  match s.trackerBroken with
  | some r => .refused r
  | none => .next (if s.filling then s.trackerFill s.sample else s.trackerEvict s.sample)

/-! ## The edge detector and the period monitor -/

/-- EDGE_DETECT's body (R111), on the sample and the `dc` that DC_UPDATE handed on. -/
def edgeDetect (s : State) : State :=
  { s with
    inPeak := s.nextInPeak
    pulseQ := s.nextPulse
    wires := { s.wires with ac := s.acSignal, edge := s.edgeFired } }

/-- PERIOD_OBSERVE's body (R120), on the edge that EDGE_DETECT handed on; it drives the publish ports. -/
def periodObserve (s : State) : State :=
  { s.emitPublish s.monitorEvent with
    timedOut := s.nextTimedOut
    prevTs := s.nextPrevTs
    wires := { s.wires with event := s.monitorEvent } }

/-! ## The transmitter -/

/-- FRAME_ENCODE's body (R130): lay out the frame of the current operands and hand it on. -/
def frameEncode (s : State) : State :=
  { s with wires := { s.wires with bytes := encodeFrame s.params.header s.frameFields } }

/-- TRY_SEND's accept branch: all eight bytes stored in this cycle, the frame pending at index 0 (R131). -/
def State.acceptFrame (s : State) : State :=
  let t := (frameEncode s).emitSend .accepted
  { t with
    frame := t.frame.writeFrom 0 t.wires.bytes
    txIdx := 0
    wires := { t.wires with ok := true } }

/-- TRY_SEND's reject branch: Overrun, the measurement lost, `FRAME` and `tx_idx` unchanged (R131). -/
def State.rejectFrame (s : State) : State :=
  let t := s.raiseOverrun.emitSend .rejected
  { t with wires := { t.wires with ok := false } }

/-- TRY_SEND's body (R131); an index of 9 to 15 is refused (R83). -/
def trySend (s : State) : Result :=
  if s.txIdx = 8 then .next s.acceptFrame
  else if s.txIdx < 8 then .next s.rejectFrame
  else .refused .reservedTxIdx

/-- Send the byte at the current index and advance it; 7 + 1 is IDLE (R132). -/
def State.sendByte (s : State) : State :=
  { s.emitByte (s.frame.read s.txIdx.toNat) with txIdx := s.txIdx + 1 }

/-- DRAIN_ONE's body (R132): a byte where one is pending and the sink is ready, else nothing; an index of 9 to 15 is refused
(R83, log 13). -/
def drainOne (s : State) : Result :=
  if s.txIdx = 8 ∨ s.txReady = false then .next s
  else if s.txIdx < 8 then .next s.sendByte
  else .refused .reservedTxIdx

end Sys2Proof.Machine
end

