-- ==== Sys2Proof/Machine/Sequencer.lean ====
section
/-! DEFINITION. The meanings of the channel sequencer's operations and of RESET (44). -/

namespace Sys2Proof.Machine

/-- RESET (R151). -/
def execReset (s : State) : Result := .next s.resetRegisters

/-- RESERVED_SEQ (R158): "A model gives no step and records a refusal." -/
def execReservedSeq (_ : State) : Result := .refused .reservedSeq

/-- CONV_START (R152). -/
def execConvStart (s : State) : Result := .next { s.emitStart with convBusy := true }

/-- IGNORE_DONE (R154): the completion is discarded; nothing is written. -/
def execIgnoreDone (s : State) : Result := .next s

/-- WAIT (R153): nothing is written. -/
def execWait (s : State) : Result := .next s

/-- What SAMPLE_OPTO does with the publish event: a period for the next frame and a move to VOLT, or nothing (R155). -/
def State.takeEvent (s : State) : State :=
  match s.wires.event with
  | .none => s
  | .measured p => { s with pendingPeriod := p, seq := 1 }
  | .timedOut => { s with pendingPeriod := 0, seq := 1 }

/-- SAMPLE_OPTO (R155): DC_UPDATE, EDGE_DETECT, PERIOD_OBSERVE in that order, then the publish event. PERIOD_OBSERVE has driven
the publish ports (R120, log 14). -/
def execSampleOpto (s : State) : Result :=
  andThen (dcUpdate s) fun s1 =>
    let s3 := periodObserve (edgeDetect s1)
    .next { s3.takeEvent with convBusy := false }

/-- SAMPLE_VOLT (R156). -/
def execSampleVolt (s : State) : Result :=
  .next { s with voltQ := s.sample, seq := 2, convBusy := false }

/-- SAMPLE_CURR (R157): TRY_SEND, then `status_q` takes the latch's value after it. -/
def execSampleCurr (s : State) : Result :=
  andThen (trySend s) fun s1 =>
    .next { s1 with statusQ := s1.failLatch, seq := 0, convBusy := false }

end Sys2Proof.Machine
end

