-- ==== Sys2Proof/Machine/Tracker.lean ====
section
/-! DEFINITION. The meanings of the sub-operations of SAMPLE_OPTO: DC_UPDATE, EDGE_DETECT, PERIOD_OBSERVE (40, 41 and 42). -/

namespace Sys2Proof.Machine

/-- DC_UPDATE (R100). -/
def execDcUpdate (s : State) : Result := dcUpdate s

/-- EDGE_DETECT (R111). -/
def execEdgeDetect (s : State) : Result := .next (edgeDetect s)

/-- PERIOD_OBSERVE (R120). -/
def execPeriodObserve (s : State) : Result := .next (periodObserve s)

end Sys2Proof.Machine
end

