-- ==== Sys2Proof/Machine/Transmitter.lean ====
section
/-! DEFINITION. The meanings of the frame encoder and byte transmitter: FRAME_ENCODE, TRY_SEND, DRAIN_ONE (43). -/

namespace Sys2Proof.Machine

/-- FRAME_ENCODE (R130): a pure function of the operands; its bytes are handed on and no register is written. -/
def execFrameEncode (s : State) : Result := .next (frameEncode s)

/-- TRY_SEND (R131). -/
def execTrySend (s : State) : Result := trySend s

/-- DRAIN_ONE (R132). -/
def execDrainOne (s : State) : Result := drainOne s

end Sys2Proof.Machine
end

