-- ==== Sys2Proof/Machine/Dispatch.lean ====
section
/-! DEFINITION. One arm per operation: its meaning. -/

namespace Sys2Proof.Machine

def exec (i : Instr) (s : State) : Host.Outcome State Fault Refusal :=
  match i with
  | .reset => Sys2Proof.Machine.execReset s
  | .reservedSeq => Sys2Proof.Machine.execReservedSeq s
  | .drainOne => Sys2Proof.Machine.execDrainOne s
  | .convStart => Sys2Proof.Machine.execConvStart s
  | .ignoreDone => Sys2Proof.Machine.execIgnoreDone s
  | .wait => Sys2Proof.Machine.execWait s
  | .sampleOpto => Sys2Proof.Machine.execSampleOpto s
  | .sampleVolt => Sys2Proof.Machine.execSampleVolt s
  | .sampleCurr => Sys2Proof.Machine.execSampleCurr s
  | .dcUpdate => Sys2Proof.Machine.execDcUpdate s
  | .edgeDetect => Sys2Proof.Machine.execEdgeDetect s
  | .periodObserve => Sys2Proof.Machine.execPeriodObserve s
  | .trySend => Sys2Proof.Machine.execTrySend s
  | .frameEncode => Sys2Proof.Machine.execFrameEncode s

end Sys2Proof.Machine
end

