-- ==== Sys2Proof/Machine/Cycle.lean ====
section
/-! DEFINITION. One clock cycle (R150): the states a model refuses (R38, R83), the operations that fire, run in order, and the
clock edge. -/

namespace Sys2Proof.Machine

/-- `pending_period` is not what the last publish event gave it, as far as one state shows it: in VOLT and CURR `timed_out = 1`
says that this event was a TimedOut (R31), which gives 0 (R38 item 8; log 10). -/
def State.pendingBroken (s : State) : Bool :=
  (s.seq == 1 || s.seq == 2) && s.pendingPeriod != 0 && s.timedOut

/-- The first invariant of R38, or range of R20, that a state breaks; item 1 (`seq = 3`) is the row RESERVED_SEQ's. "A state that
breaks one is not reachable. A model refuses it" (R38, R83; log 10). -/
def State.broken (s : State) : Option Refusal :=
  if s.params.win < s.count then some .reservedCount
  else if s.params.win ≤ s.hidx then some .reservedHidx
  else if 8 < s.txIdx then some .reservedTxIdx
  else if s.filling && s.hidx != s.count then some .fillSlotMismatch
  else if !s.hist.fits s.params.win (2 ^ s.params.adcW) then some .histRange
  else if !s.frame.fits 8 (2 ^ 8) then some .frameRange
  else if s.sum != s.hist.sumBelow s.count then some .sumMismatch
  else if s.inPeak && !s.pulseQ then some .pulseMismatch
  else if lowBits s.params.adcW s.voltQ != s.voltQ then some .voltRange
  else if s.pendingBroken then some .pendingMismatch
  else if s.statusQ != s.failLatch then some .statusMismatch
  else none

/-- Why a cycle from this state is refused before any operation runs. `rst = 1` overrides everything, and `seq = 3` is
RESERVED_SEQ's own to refuse (R150, R185). -/
def State.refusedCycle (s : State) : Option Refusal :=
  if s.rst || s.seq == 3 then none else s.broken

/-- Run operations in order, each on the state the one before it left (R12). -/
def runOps : List Instr → State → Result
  | [], s => .next s
  | i :: is, s => andThen (exec i s) (runOps is)

/-- One clock cycle (R150): the decode vector is formed from the start-of-cycle state, and the operations it selects run in
order. -/
def runCycle (s : State) : Result :=
  match s.refusedCycle with
  | some r => .refused r
  | none => andThen (runOps (decode s.dv) s.beginCycle) fun t => .next t.endCycle

/-- The state `s` with its decode vector made `w` (R78): the input vector's strobes, `seq`, `conv_busy`, and `tx_idx` IDLE or
pending as the bits say; `adc_data` and `ts` are 0 (log 4). -/
def State.withDv (s : State) (w : DV) : State :=
  { s with
    seq := w.extractLsb' 4 2
    convBusy := w.getLsbD 3
    txIdx := if w.getLsbD 0 then (if s.txIdx = 8 then 0 else s.txIdx) else 8
    inputs := encodeIv ⟨w.getLsbD 6, w.getLsbD 2, w.getLsbD 1, 0, 0⟩ :: s.inputs.tail }

end Sys2Proof.Machine
end

