-- ==== Sys2Proof/Machine/Step.lean ====
section
/-! DEFINITION. The machine's step: one clock cycle (R16, R150). -/

namespace Sys2Proof.Machine

/-- One step is one clock cycle (R16). -/
def step (s : State) : Host.Outcome State Fault Refusal := runCycle s

/-- The state in which the very next step's decode vector is the table word `w` (log 4). -/
def State.withFetchWord (s : State) (_nbits w : Nat) : State := s.withDv (BitVec.ofNat 7 w)

end Sys2Proof.Machine
end

