-- ==== Sys2Proof/Safety.lean ====
section
/-! DEFINITION. What counts as a safe state and a safe run, in the terms the statements use: the invariants of R38, runs, what is
left unchanged, and what an observer at the ports has seen. -/

namespace Sys2Proof.Machine

/-! ## The invariants -/

/-- R38 items 1 to 9, and `hidx < WIN` (R57), each as R38 words it. Of item 8, which speaks of the last publish event, a state holds
the part that `timed_out = 1` fixes: that event was TimedOut, so the value is 0 (R31; log 10). -/
structure State.Legal (s : State) : Prop where
  seq_legal : s.seq ≠ 3
  count_le : s.count ≤ s.params.win
  hidx_lt : s.hidx < s.params.win
  fill_slot : s.count < s.params.win → s.hidx = s.count
  sum_stored : s.sum = ∑ i ∈ Finset.range s.count, (s.hist.read i).toNat
  pulse_high : s.inPeak = true → s.pulseQ = true
  txIdx_le : s.txIdx.toNat ≤ 8
  volt_fits : s.voltQ.toNat < 2 ^ s.params.adcW
  pending_last : s.seq = 1 ∨ s.seq = 2 → s.timedOut = true → s.pendingPeriod = 0
  status_latch : s.statusQ = s.failLatch

/-- The memories are in canonical form and hold nothing outside their index and entry ranges (R20, R50, R53). -/
structure State.Stored (s : State) : Prop where
  hist_wf : s.hist.wf = true
  hist_range : ∀ i, s.params.win ≤ i → s.hist.read i = 0
  hist_fits : ∀ i, (s.hist.read i).toNat < 2 ^ s.params.adcW
  frame_wf : s.frame.wf = true
  frame_range : ∀ i, 8 ≤ i → s.frame.read i = 0

/-- The machine's invariant: legal parameters (R5), a legal state (R38), well-formed storage, and no value of R42 kept from one
cycle to the next. -/
structure State.Inv (s : State) : Prop where
  params_wf : s.params.Wf
  legal : s.Legal
  stored : s.Stored
  wires_idle : s.wires = Wires.idle

/-! ## Runs -/

/-- `n` cycles (R16). -/
def runN : Nat → State → Result
  | 0, s => .next s
  | n + 1, s => andThen (step s) (runN n)

/-- No cycle of the next `n` has `rst = 1`. -/
def resetFree : Nat → State → Prop
  | 0, _ => True
  | n + 1, s => s.rst = false ∧ ∀ t, step s = .next t → resetFree n t

/-! ## What stays -/

/-- The tracker's registers and memory are the same (R24). -/
def SameTracker (s t : State) : Prop := t.count = s.count ∧ t.hidx = s.hidx ∧ t.sum = s.sum ∧ ∀ i, t.hist.read i = s.hist.read i

/-- The edge detector's registers are the same (R28, R29). -/
def SameDetector (s t : State) : Prop := t.inPeak = s.inPeak ∧ t.pulseQ = s.pulseQ

/-- The period monitor's registers are the same (R30, R31). -/
def SameMonitor (s t : State) : Prop := t.prevTs = s.prevTs ∧ t.timedOut = s.timedOut

/-- The sequencer's registers are the same (R22, R23). -/
def SameSequencer (s t : State) : Prop := t.seq = s.seq ∧ t.convBusy = s.convBusy

/-- The sequencer's operand registers are the same (R32, R33). -/
def SameOperands (s t : State) : Prop := t.pendingPeriod = s.pendingPeriod ∧ t.voltQ = s.voltQ

/-- The frame buffer and its index are the same (R34, R35). -/
def SameFrame (s t : State) : Prop := t.txIdx = s.txIdx ∧ ∀ i, t.frame.read i = s.frame.read i

/-- The failure latch and the status register are the same (R36, R37). -/
def SameLatch (s t : State) : Prop := t.failLatch = s.failLatch ∧ t.statusQ = s.statusQ

/-- The parameters and the environment's side of the model are the same (log 1, log 3). -/
def SameModel (s t : State) : Prop := t.params = s.params ∧ t.inputs = s.inputs ∧ t.cycle = s.cycle

/-! ## What an observer sees -/

/-- This cycle is a SAMPLE_OPTO cycle (R79). -/
def State.takesOpto (s : State) : Prop := Instr.sampleOpto ∈ decode s.dv

/-- The `dc` that DC_UPDATE hands on in this cycle, if it is a SAMPLE_OPTO cycle (R100). -/
def State.dcNow (s : State) : Nat :=
  match exec .dcUpdate s with
  | .next t => t.wires.dc
  | .fault _ => 0
  | .refused _ => 0

/-- The AC signal of this cycle's optical sample (R110). -/
def State.acNow (s : State) : Int := (s.sample.toNat : Int) - (s.dcNow : Int)

/-- This cycle's SAMPLE_OPTO returns `edge_fired = true`: the detector enters in-peak (R17 "Edge", R112). -/
def State.edgeNow (s : State) : Prop :=
  s.takesOpto ∧ s.inPeak = false ∧ ∃ t, step s = .next t ∧ t.inPeak = true

/-- The bytes of the frame in flight that the sink has not received (R35, R133). -/
def State.unsent (s : State) : List Byte := s.frame.readFrom s.txIdx.toNat (8 - s.txIdx.toNat)

/-- The bytes the sink takes in the next `n` cycles, first first (R132). -/
def sentBytes : Nat → State → List Byte
  | 0, _ => []
  | n + 1, s =>
    match step s with
    | .next t => (if t.out.txWe then [t.out.txData] else []) ++ sentBytes n t
    | .fault _ => []
    | .refused _ => []

/-- The frames that TRY_SEND accepts in the next `n` cycles, first first, each as the bytes of its fields (R130, R131). -/
def acceptedFrames : Nat → State → List (List Byte)
  | 0, _ => []
  | n + 1, s =>
    match step s with
    | .next t =>
      (if t.out.sendEv = encodeSend .accepted then [encodeFrame s.params.header s.frameFields] else [])
        ++ acceptedFrames n t
    | .fault _ => []
    | .refused _ => []

/-- `s` with the optical sample `x` on `adc_data` (R82). -/
def State.withSample (s : State) (x : Half) : State := { s with inputs := [encodeIv ⟨false, true, false, x, 0⟩] }

/-- DC_UPDATE on each of a list of samples, in order (R101). -/
def feedTracker : State → List Half → Result
  | s, [] => .next s
  | s, x :: xs => andThen (exec .dcUpdate (s.withSample x)) fun t => feedTracker t xs

/-- The floor mean of the last `min k WIN` of `k` samples (R101). -/
def windowMean (win : Nat) (xs : List Nat) : Nat :=
  (xs.drop (xs.length - win)).sum / min xs.length win

end Sys2Proof.Machine
end

