-- ==== Sys2Proof/Certificates/Slice0/Obligations.lean ====
section
/-! DEFINITION. The statements about the model, for the provers. Each docstring names the rule of spec/ it formalises, or the log
entry where it is the model's own choice. -/

open Sys2Proof Sys2Proof.Machine

/-! ## Encodings -/

/-- R79, R150: decode vectors written out bit by bit (`rst seq seq busy done ready pending`), with don't-care bits 0 and 1, give
the operations of their rows, in firing order. -/
def Obligations.TableWordsDecodeToTheirOperations : Prop :=
  decode 0b1000000#7 = [.reset] ∧ decode 0b1111111#7 = [.reset] ∧
  decode 0b0110000#7 = [.reservedSeq] ∧ decode 0b0111111#7 = [.reservedSeq] ∧
  decode 0b0000000#7 = [.convStart] ∧ decode 0b0100110#7 = [.convStart, .ignoreDone] ∧
  decode 0b0000111#7 = [.drainOne, .convStart, .ignoreDone] ∧
  decode 0b0001000#7 = [.wait] ∧ decode 0b0101011#7 = [.drainOne, .wait] ∧
  decode 0b0001100#7 = [.sampleOpto] ∧ decode 0b0011101#7 = [.sampleVolt] ∧
  decode 0b0101111#7 = [.drainOne, .sampleCurr]

/-- R78: the bits of the decode vector, and an operation fires exactly when `(DV & mask) = match`; R79's "no other row fires"
for RESERVED_SEQ is read as in log 11. -/
def Obligations.RowFiresExactlyWhenMaskMatches : Prop :=
  (∀ s : State, s.dv.getLsbD 6 = s.rst ∧ s.dv.extractLsb' 4 2 = s.seq ∧ s.dv.getLsbD 3 = s.convBusy ∧
    s.dv.getLsbD 2 = s.adcDone ∧ s.dv.getLsbD 1 = s.txReady ∧ s.dv.getLsbD 0 = decide (s.txIdx ≠ 8)) ∧
  ∀ (v : DV) (i : Instr), i.wf = true →
    (v &&& 0b1110000#7 ≠ 0b0110000#7 → (i ∈ decode v ↔ v &&& i.mask = i.pattern)) ∧
    (v &&& 0b1110000#7 = 0b0110000#7 → (i ∈ decode v ↔ i = .reservedSeq))

/-- R79's properties of the map: RESET and RESERVED_SEQ fire alone; otherwise exactly one sequencer operation fires, IGNORE_DONE
only with CONV_START, DRAIN_ONE independently. -/
def Obligations.FiringOperationsFormOneCycle : Prop :=
  ∀ v : DV, cycleWf (decode v) = true ∧ (decode v).all Instr.wf = true

/-- R71: the input vector carries every input port and nothing else. -/
def Obligations.InputVectorRoundTrips : Prop :=
  (∀ x : Inputs, decodeIv (encodeIv x) = x) ∧ (∀ v : IV, encodeIv (decodeIv v) = v) ∧
  ∀ x : Inputs, (encodeIv x).toNat =
    (4 * x.rst.toNat + 2 * x.adcDone.toNat + x.txReady.toNat) * 2 ^ 32 + x.adcData.toNat * 2 ^ 16 + x.ts.toNat

/-- R72: the output vector carries every output port and nothing else, each at the bits the rule's table gives it: `pulse_out` OV[0],
`status_out` OV[1], `adc_start` OV[2], `adc_ch` OV[4:3], `tx_we` OV[5], `tx_data` OV[13:6], `pub_valid` OV[14], `pub_kind` OV[15],
`pub_period` OV[31:16], `send_ev` OV[33:32]. -/
def Obligations.OutputVectorRoundTrips : Prop :=
  (∀ x : Outputs, decodeOv (encodeOv x) = x) ∧ (∀ v : OV, encodeOv (decodeOv v) = v) ∧
  ∀ x : Outputs, (encodeOv x).toNat =
    x.pulseOut.toNat + 2 * x.statusOut.toNat + 2 ^ 2 * x.adcStart.toNat + 2 ^ 3 * x.adcCh.toNat + 2 ^ 5 * x.txWe.toNat +
      2 ^ 6 * x.txData.toNat + 2 ^ 14 * x.pubValid.toNat + 2 ^ 15 * x.pubKind.toNat + 2 ^ 16 * x.pubPeriod.toNat +
      2 ^ 32 * x.sendEv.toNat

/-- R135: the checksum holds over the payload, and decoding returns exactly the encoded fields (so encoding them again is encoding
the same fields under the same header, the same frame). -/
def Obligations.FrameChecksumRoundTrips : Prop :=
  ∀ (h : Byte) (f : FrameFields), ∃ b0 b1 b2 b3 b4 b5 b6 b7 : Byte,
    encodeFrame h f = [b0, b1, b2, b3, b4, b5, b6, b7] ∧
    b1 = sum8 [b2, b3, b4, b5, b6, b7] ∧
    f.period.toNat = b2.toNat + 256 * b3.toNat ∧
    f.voltage.toNat = b4.toNat + 256 * b5.toNat ∧
    f.current.toNat = b6.toNat + 256 * b7.toNat ∧
    decodeFrame [b0, b1, b2, b3, b4, b5, b6, b7] = some f

/-- R79 and the model's `withFetchWord` (log 4, log 12): in any state, the next cycle's decode vector is the table word put in; so every word of a
well-formed operation's row (whatever the don't-care bits, RESERVED_SEQ's words apart, log 11) makes that operation fire, and the
operation's own encoded word is called by its name. -/
def Obligations.EncodedOperationFiresInNextCycle : Prop :=
  (∀ (s : State) (n w : Nat), w < 2 ^ 7 →
    (s.withFetchWord n w).dv = BitVec.ofNat 7 w ∧ decodeWord w = .ok (decode (s.withFetchWord n w).dv)) ∧
  (∀ i : Instr, i.wf = true → namedRow (encode i) = some i ∧ decodeTableWord 8 (encode i).toNat = some i) ∧
  ∀ (s : State) (i : Instr) (d : DV), i.wf = true →
    ((encode i ||| (d &&& ~~~i.mask)) &&& 0b1110000#7 = 0b0110000#7 → i = .reservedSeq) →
    i ∈ decode (s.withDv (encode i ||| (d &&& ~~~i.mask))).dv

/-- R85: what the stimulus forms stand for, as the hexadecimal words the rule gives, the raw form among them; and the input vectors of
several lines, one line's after another's, whatever labels and comments the lines carry. That a program with a number too wide for its
field is refused is the model's choice (log 16). -/
def Obligations.StimulusFormsAssemble : Prop :=
  encodeForm .reset = [0x400000000#35] ∧ encodeForm (.idle false) = [0x000000000#35] ∧
  encodeForm (.idle true) = [0x100000000#35] ∧
  (∀ d t : Nat, d < 2 ^ 16 → t < 2 ^ 16 →
    encodeForm (.conv d t false) = [BitVec.ofNat 35 (0x200000000 + d * 2 ^ 16 + t)] ∧
    encodeForm (.conv d t true) = [BitVec.ofNat 35 (0x300000000 + d * 2 ^ 16 + t)]) ∧
  (∀ v : Nat, v < 2 ^ 35 → (encodeForm (.raw v)).map BitVec.toNat = [v]) ∧
  (∀ (n : Nat) (f : Form), encodeForm (.times (n + 1) f) = encodeForm f ++ encodeForm (.times n f) ∧
    (encodeForm (.times n f)).length = n * (encodeForm f).length) ∧
  assemble [] = some [] ∧
  (∀ (l : Line) (ls : List Line), l.form.wf = true → assemble (l :: ls) = (assemble ls).map (encodeForm l.form ++ ·)) ∧
  (∀ (l : Line) (ls : List Line), l ∈ ls → l.form.wf = false → assemble ls = none) ∧
  Form.wf .reset = true ∧ (∀ r, Form.wf (.idle r) = true) ∧
  (∀ d t r, Form.wf (.conv d t r) = true ↔ d < 2 ^ 16 ∧ t < 2 ^ 16) ∧ (∀ v, Form.wf (.raw v) = true ↔ v < 2 ^ 35) ∧
  ∀ (n : Nat) (f : Form), Form.wf (.times n f) = f.wf

/-- R76, R77, R73: the codes read back; the combinations never driven have no meaning. -/
def Obligations.EnumerationCodesRoundTrip : Prop :=
  (∀ e, decodePublish (encodePubValid e) (encodePubKind e) (encodePubPeriod e) = some e) ∧
  (∀ e, decodeSend (encodeSend e) = some e) ∧ (∀ c, decodeChannel (encodeChannel c) = some c) ∧
  decodeSend 3 = none ∧ decodeChannel 3 = none ∧ ∀ p : Half, p ≠ 0 → decodePublish true true p = none

/-! ## Parameters and primitives -/

/-- R6: `LOW_TH` is derived from `HIGH_TH`, lies below it, and is 7 at the default. -/
def Obligations.LowThresholdIsQuarterOfHigh : Prop :=
  (∀ p : Params, p.lowTh = p.highTh / 4 ∧ (1 ≤ p.highTh → p.lowTh < p.highTh)) ∧ Config.params.lowTh = 7

/-- R10: wraparound-correct subtraction, and the rule's example. -/
def Obligations.TimestampDifferenceWraps : Prop :=
  (∀ a b : Half, ((tsdiff a b).toNat : Int) = ((a.toNat : Int) - (b.toNat : Int)) % 2 ^ 16) ∧
  (tsdiff 100 65300).toNat = 336

/-- R11: the wrapping byte sum. -/
def Obligations.ByteSumWraps : Prop :=
  ∀ bs : List Byte, (sum8 bs).toNat = (bs.map BitVec.toNat).sum % 256

/-! ## The operations: where each completes, what it writes, what it leaves -/

/-- R151: RESET completes in every state; every register takes its reset value, and `HIST` and `FRAME` stay. R72: every port but the
two registered ones is 0; that `adc_ch` is 0 too, against R70 and R152, is the reading of log 19. -/
def Obligations.ResetWritesEveryRegister : Prop :=
  ∀ s : State, ∃ t, exec .reset s = .next t ∧
    t.seq = 0 ∧ t.convBusy = false ∧ t.count = 0 ∧ t.hidx = 0 ∧ t.sum = 0 ∧ t.inPeak = false ∧ t.pulseQ = false ∧
    t.prevTs = s.params.pmPrevReset ∧ t.timedOut = s.params.pmToReset ∧ t.pendingPeriod = 0 ∧ t.voltQ = 0 ∧
    t.txIdx = 8 ∧ t.failLatch = false ∧ t.statusQ = false ∧
    (∀ i, t.hist.read i = s.hist.read i) ∧ (∀ i, t.frame.read i = s.frame.read i) ∧
    t.out = { idleOutputs with pulseOut := s.pulseQ, statusOut := s.statusQ } ∧ SameModel s t

/-- R20, R200: the reset column, for every choice of the parameters. -/
def Obligations.ResetStateHoldsResetColumn : Prop :=
  ∀ p : Params,
    (State.resetOf p).seq = 0 ∧ (State.resetOf p).convBusy = false ∧ (State.resetOf p).count = 0 ∧
    (State.resetOf p).hidx = 0 ∧ (State.resetOf p).sum = 0 ∧ (State.resetOf p).inPeak = false ∧
    (State.resetOf p).pulseQ = false ∧ (State.resetOf p).prevTs = p.pmPrevReset ∧
    (State.resetOf p).timedOut = p.pmToReset ∧ (State.resetOf p).pendingPeriod = 0 ∧ (State.resetOf p).voltQ = 0 ∧
    (State.resetOf p).txIdx = 8 ∧ (State.resetOf p).failLatch = false ∧ (State.resetOf p).statusQ = false ∧
    State.reset = State.resetOf Config.params

/-- R152: CONV_START completes in every state, sets `conv_busy` and drives `adc_start` and `adc_ch`; nothing else changes. -/
def Obligations.ConvStartStartsAConversion : Prop :=
  ∀ s : State, ∃ t, exec .convStart s = .next t ∧ t.convBusy = true ∧ t.seq = s.seq ∧
    t.out = { s.out with adcStart := true, adcCh := s.seq } ∧ t.wires = s.wires ∧ SameTracker s t ∧ SameDetector s t ∧
    SameMonitor s t ∧ SameOperands s t ∧ SameFrame s t ∧ SameLatch s t ∧ SameModel s t

/-- R153, R154: WAIT and IGNORE_DONE complete in every state and write nothing, no port and no memory entry either. -/
def Obligations.WaitAndIgnoreDoneWriteNothing : Prop :=
  ∀ (s : State) (i : Instr), i = .wait ∨ i = .ignoreDone → ∃ t, exec i s = .next t ∧ t.out = s.out ∧ t.wires = s.wires ∧
    SameSequencer s t ∧ SameTracker s t ∧ SameDetector s t ∧ SameMonitor s t ∧ SameOperands s t ∧ SameFrame s t ∧
    SameLatch s t ∧ SameModel s t

/-- R158: RESERVED_SEQ is a refusal in every state; a cycle that starts with `rst = 0` and `seq = 3` is that refusal; `rst = 1`
leaves the state. -/
def Obligations.ReservedSeqIsRefused : Prop :=
  (∀ s : State, exec .reservedSeq s = .refused .reservedSeq) ∧
  ∀ s : State, s.seq = 3 → (s.rst = false → step s = .refused .reservedSeq) ∧
    (s.rst = true → ∃ t, step s = .next t ∧ t.seq = 0)

/-- R100, fill branch: while fewer than WIN samples have been seen, DC_UPDATE stores the sample at `hidx`, adds it to the sum, counts it,
advances the index modulo WIN and hands on the floor mean. -/
def Obligations.DcUpdateFillsTheWindow : Prop :=
  ∀ s : State, s.hist.wf = true → s.count < s.params.win → s.hidx < s.params.win →
    ∃ t, exec .dcUpdate s = .next t ∧ t.count = s.count + 1 ∧ t.hidx = (s.hidx + 1) % s.params.win ∧
      t.sum = s.sum + s.sample.toNat ∧ t.wires = { s.wires with dc := t.sum / t.count } ∧
      t.hist.read s.hidx = s.sample ∧ (∀ i, i ≠ s.hidx → t.hist.read i = s.hist.read i) ∧
      t.out = s.out ∧ SameSequencer s t ∧ SameDetector s t ∧ SameMonitor s t ∧ SameOperands s t ∧ SameFrame s t ∧
      SameLatch s t ∧ SameModel s t

/-- R100, at capacity: DC_UPDATE replaces the oldest sample in the store and in the sum, advances the index modulo WIN, keeps the
count and hands on `sum div WIN`. The sum covers the evicted sample by R38 item 4 (log 13). -/
def Obligations.DcUpdateEvictsTheOldest : Prop :=
  ∀ s : State, s.hist.wf = true → s.count = s.params.win → s.hidx < s.params.win →
    (s.hist.read s.hidx).toNat ≤ s.sum →
    ∃ t, exec .dcUpdate s = .next t ∧ t.count = s.count ∧ t.hidx = (s.hidx + 1) % s.params.win ∧
      t.sum + (s.hist.read s.hidx).toNat = s.sum + s.sample.toNat ∧
      t.wires = { s.wires with dc := t.sum / s.params.win } ∧
      t.hist.read s.hidx = s.sample ∧ (∀ i, i ≠ s.hidx → t.hist.read i = s.hist.read i) ∧
      t.out = s.out ∧ SameSequencer s t ∧ SameDetector s t ∧ SameMonitor s t ∧ SameOperands s t ∧ SameFrame s t ∧
      SameLatch s t ∧ SameModel s t

/-- R111: EDGE_DETECT completes in every state with the rows of the state table, on `ac = s - dc` (R110). -/
def Obligations.EdgeDetectFollowsStateTable : Prop :=
  ∀ s : State, ∃ t, exec .edgeDetect s = .next t ∧
    t.wires = { s.wires with ac := t.wires.ac, edge := t.wires.edge } ∧
    t.wires.ac = (s.sample.toNat : Int) - (s.wires.dc : Int) ∧
    (s.inPeak = false → t.wires.ac > s.params.highTh → t.inPeak = true ∧ t.pulseQ = true ∧ t.wires.edge = true) ∧
    (s.inPeak = false → t.wires.ac ≤ s.params.highTh → t.inPeak = false ∧ t.pulseQ = false ∧ t.wires.edge = false) ∧
    (s.inPeak = true → t.wires.ac < s.params.lowTh → t.inPeak = false ∧ t.pulseQ = s.pulseQ ∧ t.wires.edge = false) ∧
    (s.inPeak = true → t.wires.ac ≥ s.params.lowTh → t.inPeak = true ∧ t.pulseQ = s.pulseQ ∧ t.wires.edge = false) ∧
    t.out = s.out ∧ SameSequencer s t ∧ SameTracker s t ∧ SameMonitor s t ∧ SameOperands s t ∧ SameFrame s t ∧
    SameLatch s t ∧ SameModel s t

/-- R120: PERIOD_OBSERVE completes in every state with the first of the source's four rules that applies, and drives the publish
ports with its result (R76). -/
def Obligations.PeriodObserveFollowsFourRules : Prop :=
  ∀ s : State, ∃ t, exec .periodObserve s = .next t ∧
    t.wires = { s.wires with event := t.wires.event } ∧
    (s.wires.edge = true → s.timedOut = true →
      t.timedOut = false ∧ t.prevTs = s.ts ∧ t.wires.event = .none) ∧
    (s.wires.edge = true → s.timedOut = false →
      t.timedOut = false ∧ t.prevTs = s.ts ∧ t.wires.event = .measured (tsdiff s.ts s.prevTs)) ∧
    (s.wires.edge = false → (tsdiff s.ts s.prevTs).toNat > s.params.timeout → s.timedOut = false →
      t.timedOut = true ∧ t.prevTs = s.ts ∧ t.wires.event = .timedOut) ∧
    (s.wires.edge = false → (tsdiff s.ts s.prevTs).toNat ≤ s.params.timeout ∨ s.timedOut = true →
      t.timedOut = s.timedOut ∧ t.prevTs = s.prevTs ∧ t.wires.event = .none) ∧
    t.out = { s.out with pubValid := encodePubValid t.wires.event, pubKind := encodePubKind t.wires.event,
                         pubPeriod := encodePubPeriod t.wires.event } ∧
    SameSequencer s t ∧ SameTracker s t ∧ SameDetector s t ∧ SameOperands s t ∧ SameFrame s t ∧ SameLatch s t ∧
    SameModel s t

/-- R155: where the tracker can take the sample, SAMPLE_OPTO completes; it is DC_UPDATE, EDGE_DETECT and PERIOD_OBSERVE in that order, then
`conv_busy` cleared and the publish event turned into the pending period and a move to VOLT. -/
def Obligations.SampleOptoRunsThreeParts : Prop :=
  ∀ s : State, s.count ≤ s.params.win → s.hidx < s.params.win →
    (s.count = s.params.win → (s.hist.read s.hidx).toNat ≤ s.sum) →
    ∃ s1 s2 s3 t, exec .dcUpdate s = .next s1 ∧ exec .edgeDetect s1 = .next s2 ∧ exec .periodObserve s2 = .next s3 ∧
      exec .sampleOpto s = .next t ∧ t.convBusy = false ∧
      (s3.wires.event = .none → t.seq = s.seq ∧ t.pendingPeriod = s.pendingPeriod) ∧
      (∀ p, s3.wires.event = .measured p → t.seq = 1 ∧ t.pendingPeriod = p) ∧
      (s3.wires.event = .timedOut → t.seq = 1 ∧ t.pendingPeriod = 0) ∧
      SameTracker s3 t ∧ SameDetector s3 t ∧ SameMonitor s3 t ∧ t.out = s3.out ∧ t.wires = s3.wires ∧
      (s.hist.wf = true → t.hist.read s.hidx = s.sample ∧ ∀ i, i ≠ s.hidx → t.hist.read i = s.hist.read i) ∧
      t.voltQ = s.voltQ ∧ SameFrame s t ∧ SameLatch s t ∧ SameModel s t

/-- R156, R82, R84: SAMPLE_VOLT completes in every state: the low ADC_W bits of `adc_data`, zero-extended, in `volt_q`; CURR next. -/
def Obligations.SampleVoltStoresTheReading : Prop :=
  ∀ s : State, 8 ≤ s.params.adcW → s.params.adcW ≤ 16 → ∃ t, exec .sampleVolt s = .next t ∧
    t.voltQ.toNat = (ivAdcData s.iv).toNat % 2 ^ s.params.adcW ∧ t.seq = 2 ∧ t.convBusy = false ∧
    t.pendingPeriod = s.pendingPeriod ∧ t.out = s.out ∧ t.wires = s.wires ∧ SameTracker s t ∧ SameDetector s t ∧
    SameMonitor s t ∧ SameFrame s t ∧ SameLatch s t ∧ SameModel s t

/-- R130: FRAME_ENCODE completes in every state and hands on the eight bytes of the layout; no register or memory changes. -/
def Obligations.FrameEncodeLaysOutTheFrame : Prop :=
  ∀ s : State, ∃ (t : State) (b1 b2 b3 b4 b5 b6 b7 : Byte), exec .frameEncode s = .next t ∧
    t.wires = { s.wires with bytes := [s.params.header, b1, b2, b3, b4, b5, b6, b7] } ∧
    b2.toNat = s.pendingPeriod.toNat % 256 ∧ b3.toNat = s.pendingPeriod.toNat / 256 ∧
    b4.toNat = s.voltQ.toNat % 256 ∧ b5.toNat = s.voltQ.toNat / 256 ∧
    b6.toNat = s.sample.toNat % 256 ∧ b7.toNat = s.sample.toNat / 256 ∧
    b1.toNat = (b2.toNat + b3.toNat + b4.toNat + b5.toNat + b6.toNat + b7.toNat) % 256 ∧
    t.out = s.out ∧ SameSequencer s t ∧ SameTracker s t ∧ SameDetector s t ∧ SameMonitor s t ∧ SameOperands s t ∧
    SameFrame s t ∧ SameLatch s t ∧ SameModel s t

/-- R131, accept: an idle transmitter takes all eight bytes of the frame at once, is pending at index 0 and reports it. -/
def Obligations.TrySendAcceptsWhenIdle : Prop :=
  ∀ s : State, s.frame.wf = true → s.txIdx = 8 → ∃ t, exec .trySend s = .next t ∧ t.txIdx = 0 ∧
    t.frame.readFrom 0 8 = encodeFrame s.params.header ⟨s.pendingPeriod, s.voltQ, s.sample⟩ ∧
    (∀ i, 8 ≤ i → t.frame.read i = s.frame.read i) ∧
    t.out = { s.out with sendEv := 1 } ∧ t.wires.ok = true ∧ SameLatch s t ∧ SameSequencer s t ∧ SameTracker s t ∧
    SameDetector s t ∧ SameMonitor s t ∧ SameOperands s t ∧ SameModel s t

/-- R131, R180, reject: a pending transmitter is not disturbed; the latch is set, the overrun reported, and nothing else changes. -/
def Obligations.TrySendRejectsWhilePending : Prop :=
  ∀ s : State, s.txIdx.toNat < 8 → ∃ t, exec .trySend s = .next t ∧ t.failLatch = true ∧ t.statusQ = s.statusQ ∧
    t.out = { s.out with sendEv := 2 } ∧ t.wires.ok = false ∧ SameFrame s t ∧ SameSequencer s t ∧ SameTracker s t ∧
    SameDetector s t ∧ SameMonitor s t ∧ SameOperands s t ∧ SameModel s t

/-- R157: where `tx_idx` is no reserved code, SAMPLE_CURR completes; it is TRY_SEND, then `status_q` takes the latch's value after it,
`seq` returns to OPTO and `conv_busy` is cleared. -/
def Obligations.SampleCurrSendsAndReportsStatus : Prop :=
  ∀ s : State, s.txIdx.toNat ≤ 8 → ∃ s1 t, exec .trySend s = .next s1 ∧ exec .sampleCurr s = .next t ∧
    t.failLatch = s1.failLatch ∧ t.statusQ = s1.failLatch ∧ t.seq = 0 ∧ t.convBusy = false ∧ t.out = s1.out ∧
    t.wires = s1.wires ∧ SameFrame s1 t ∧ (s.txIdx ≠ 8 → SameFrame s t) ∧
    (s.frame.wf = true → ∀ i, 8 ≤ i → t.frame.read i = s.frame.read i) ∧ SameTracker s t ∧ SameDetector s t ∧ SameMonitor s t ∧ SameOperands s t ∧
    SameModel s t

/-- R132: DRAIN_ONE with a byte pending and the sink ready completes: it offers `FRAME[tx_idx]` and advances the index, 7 to IDLE. -/
def Obligations.DrainOneSendsTheCurrentByte : Prop :=
  ∀ s : State, s.txIdx.toNat < 8 → s.txReady = true → ∃ t, exec .drainOne s = .next t ∧
    t.txIdx.toNat = s.txIdx.toNat + 1 ∧ (∀ i, t.frame.read i = s.frame.read i) ∧
    t.out = { s.out with txWe := true, txData := s.frame.read s.txIdx.toNat } ∧ t.wires = s.wires ∧
    SameSequencer s t ∧ SameTracker s t ∧ SameDetector s t ∧ SameMonitor s t ∧ SameOperands s t ∧ SameLatch s t ∧
    SameModel s t

/-- R83: the operations that read `tx_idx`, `count` or `hidx` refuse a reserved or out-of-range value of it. DRAIN_ONE reads its index
only where the sink is ready (log 13). -/
def Obligations.ReservedIndicesAreRefused : Prop :=
  (∀ s : State, 8 < s.txIdx.toNat → exec .trySend s = .refused .reservedTxIdx ∧
    exec .sampleCurr s = .refused .reservedTxIdx ∧
    (s.txReady = true → exec .drainOne s = .refused .reservedTxIdx)) ∧
  (∀ s : State, s.params.win < s.count → exec .dcUpdate s = .refused .reservedCount ∧
    exec .sampleOpto s = .refused .reservedCount) ∧
  ∀ s : State, s.count ≤ s.params.win → s.params.win ≤ s.hidx → exec .dcUpdate s = .refused .reservedHidx ∧
    exec .sampleOpto s = .refused .reservedHidx

/-- R209: in a run that starts with the monitor as reset leaves it (R20's reset column), where no edge has fired and nothing has been
published since, the first edge publishes a period measured from `PM_PREV_RESET`, or only sets the baseline, as `PM_TO_RESET` says. A
timeout before the first edge is a publish, so it is no such run. -/
def Obligations.FirstEdgeAfterResetDependsOnParameters : Prop :=
  ∀ (s a : State) (n : Nat), s.Inv → s.prevTs = s.params.pmPrevReset → s.timedOut = s.params.pmToReset →
    resetFree n s → runN n s = .next a →
    (∀ k c d, k < n → runN k s = .next c → step c = .next d → ¬ c.edgeNow ∧ d.out.pubValid = false) → a.edgeNow →
    ∃ t, step a = .next t ∧ t.prevTs = a.ts ∧ t.timedOut = false ∧
      (s.params.pmToReset = true →
        (t.out.pubValid, t.out.pubKind, t.out.pubPeriod) = (false, false, 0) ∧ t.seq = 0 ∧
        t.pendingPeriod = a.pendingPeriod) ∧
      (s.params.pmToReset = false →
        (t.out.pubValid, t.out.pubKind, t.out.pubPeriod) = (true, false, tsdiff a.ts s.params.pmPrevReset) ∧ t.seq = 1 ∧
        t.pendingPeriod = tsdiff a.ts s.params.pmPrevReset)

/-! ## The cycle -/

/-- R16, R150: a step is the operations that the decode vector selects, run in order between the start of the cycle and the clock
edge; for one, two or three of them, one after the other. -/
def Obligations.StepRunsDecodedOperations : Prop :=
  ∀ s : State, s.Inv ∨ s.rst = true →
    (∀ i, decode s.dv = [i] → step s = andThen (exec i s.beginCycle) fun t => .next t.endCycle) ∧
    (∀ i j, decode s.dv = [i, j] →
      step s = andThen (exec i s.beginCycle) fun t => andThen (exec j t) fun u => .next u.endCycle) ∧
    (∀ i j k, decode s.dv = [i, j, k] →
      step s = andThen (exec i s.beginCycle) fun t => andThen (exec j t) fun u => andThen (exec k u) fun v =>
        .next v.endCycle) ∧
    1 ≤ (decode s.dv).length ∧ (decode s.dv).length ≤ 3

/-- R150: with `rst = 0` in a legal state, the transmitter phase comes first, then exactly one branch of the sequencer. -/
def Obligations.CycleOrderIsDrainThenSequencer : Prop :=
  ∀ s : State, s.Legal → s.rst = false →
    decode s.dv = (if s.txIdx ≠ 8 ∧ s.txReady = true then [Instr.drainOne] else []) ++
      (if s.convBusy = false then (if s.adcDone = true then [Instr.convStart, Instr.ignoreDone] else [Instr.convStart])
       else if s.adcDone = false then [Instr.wait]
       else if s.seq = 0 then [Instr.sampleOpto]
       else if s.seq = 1 then [Instr.sampleVolt]
       else [Instr.sampleCurr])

/-- R185 item 1, R200: `rst = 1` overrides everything, in any state at all: the step completes with every register at its reset value,
the memories as they were and only the two registered ports showing (R72; for `adc_ch` log 19). -/
def Obligations.ResetCycleOverridesEverything : Prop :=
  ∀ s : State, s.rst = true → ∃ t, step s = .next t ∧
    t = { State.resetOf s.params with
          hist := s.hist, frame := s.frame, inputs := s.inputs.tail, cycle := s.cycle + 1
          out := { idleOutputs with pulseOut := s.pulseQ, statusOut := s.statusQ } }

/-- R183, R194: from every state that meets the invariant the block performs its step, whatever the inputs. -/
def Obligations.EveryLegalStateSteps : Prop :=
  ∀ s : State, s.Inv → ∃ t, step s = .next t

/-- R38, R83: a state that breaks one of the invariants, or holds a memory entry outside the range of R20, is refused, unless `rst = 1`
(log 8, log 10). -/
def Obligations.UnreachableStatesAreRefused : Prop :=
  ∀ s : State, s.rst = false → ¬ (s.Legal ∧ s.Stored) → ∃ r, step s = .refused r

/-- R38 (of item 8 the part that one state shows, log 10), R5, R13, R42: the invariant is kept by every step, from every state that meets
it, for every input. -/
def Obligations.EveryStepKeepsTheInvariant : Prop :=
  ∀ s t : State, s.Inv → step s = .next t → t.Inv

/-- R38, R200: the state after reset meets the invariant, for every value of the OPEN parameters. -/
def Obligations.ResetStateMeetsTheInvariant : Prop :=
  State.reset.Inv ∧ ∀ p : Params, p.Wf → (State.resetOf p).Inv

/-- R7, R16, R85: a step changes no parameter and uses up exactly one input vector; later inputs do not influence it. -/
def Obligations.StepUsesOneInputVector : Prop :=
  (∀ s t : State, step s = .next t → t.params = s.params ∧ t.inputs = s.inputs.tail ∧ t.cycle = s.cycle + 1) ∧
  ∀ (s t : State) (v : IV) (vs ws : List IV), step { s with inputs := v :: vs } = .next t →
    step { s with inputs := v :: ws } = .next { t with inputs := ws }

/-- The model's environment (log 3): where no input is given, the cycle runs on the free input vector of its number. -/
def Obligations.MissingInputIsFree : Prop :=
  ∀ s : State, s.inputs = [] → step s = step { s with inputs := [Config.envInput s.cycle] }

/-- R72: what every port shows in a cycle that starts in a state that meets the invariant. With `rst = 0` each row of the rule's table
has its clause: the publish ports show what PERIOD_OBSERVE makes of the sample (R76, R120), and `send_ev` what TRY_SEND finds after the
cycle's drain (R77, R131). With `rst = 1`, OV[33:2] is 0: that `adc_ch` is 0 there too, against R70 and R152, is the reading of
log 19. -/
def Obligations.OutputPortsOfACycle : Prop :=
  ∀ s t : State, s.Inv → step s = .next t →
    t.out.pulseOut = s.pulseQ ∧ t.out.statusOut = s.statusQ ∧
    (s.rst = false →
      t.out.adcCh = s.seq ∧ (t.out.adcStart = true ↔ Instr.convStart ∈ decode s.dv) ∧
      (t.out.txWe = true ↔ Instr.drainOne ∈ decode s.dv) ∧
      t.out.txData = (if t.out.txWe = true then s.frame.read s.txIdx.toNat else 0) ∧
      (¬ s.takesOpto → (t.out.pubValid, t.out.pubKind, t.out.pubPeriod) = (false, false, 0)) ∧
      (s.edgeNow → s.timedOut = true → (t.out.pubValid, t.out.pubKind, t.out.pubPeriod) = (false, false, 0)) ∧
      (s.edgeNow → s.timedOut = false →
        (t.out.pubValid, t.out.pubKind, t.out.pubPeriod) = (true, false, tsdiff s.ts s.prevTs)) ∧
      (s.takesOpto → ¬ s.edgeNow → (tsdiff s.ts s.prevTs).toNat > s.params.timeout → s.timedOut = false →
        (t.out.pubValid, t.out.pubKind, t.out.pubPeriod) = (true, true, 0)) ∧
      (s.takesOpto → ¬ s.edgeNow → (tsdiff s.ts s.prevTs).toNat ≤ s.params.timeout ∨ s.timedOut = true →
        (t.out.pubValid, t.out.pubKind, t.out.pubPeriod) = (false, false, 0)) ∧
      (¬ (t.out.pubValid = true ∧ t.out.pubKind = false) → t.out.pubPeriod = 0) ∧
      t.out.sendEv =
        (if Instr.sampleCurr ∉ decode s.dv then 0
         else if s.txIdx = 8 ∨ (s.txIdx = 7 ∧ s.txReady = true) then 1 else 2)) ∧
    (s.rst = true → (encodeOv t.out).extractLsb' 2 32 = 0)

/-- R83, R73, R76, R77: whatever the state, a step never drives a reserved code. -/
def Obligations.ReservedCodesAreNeverDriven : Prop :=
  ∀ s t : State, step s = .next t →
    t.out.adcCh ≠ 3 ∧ t.out.sendEv ≠ 3 ∧ (t.out.pubKind = true → t.out.pubValid = true ∧ t.out.pubPeriod = 0)

/-! ## The tracker -/

/-- R101, the window law: after any optical samples since the tracker's reset, whatever `HIST` held then, the `dc` handed on for the last
one is the floor mean of the last `min k WIN` of them. -/
def Obligations.EstimateIsMeanOfLastWindow : Prop :=
  ∀ (s : State) (xs : List Half) (x : Half), 1 ≤ s.params.win → s.hist.wf = true → s.count = 0 → s.hidx = 0 → s.sum = 0 →
    ∃ t u, feedTracker s xs = .next t ∧ exec .dcUpdate (t.withSample x) = .next u ∧
      u.wires.dc = windowMean s.params.win ((xs ++ [x]).map fun y => (lowBits s.params.adcW y).toNat)

/-- R27, R100 corner case 3: in every state that meets the invariant the sum fits its SUM_W bits and the estimate fits ADC_W bits. -/
def Obligations.SumAndEstimateFitTheirWidths : Prop :=
  ∀ s : State, s.Inv → s.sum ≤ s.params.win * (2 ^ s.params.adcW - 1) ∧ s.sum < 2 ^ s.params.sumW ∧
    s.dcNow ≤ 2 ^ s.params.adcW - 1

/-- R102, R122, R206: outside SAMPLE_OPTO and reset cycles the tracker, the detector, the pulse pin and the monitor stand still and nothing is
published; every SAMPLE_OPTO cycle updates the tracker. -/
def Obligations.OnlyOpticalSamplesReachTheFrontEnd : Prop :=
  ∀ s t : State, s.Inv → step s = .next t → s.rst = false →
    (¬ s.takesOpto → SameTracker s t ∧ SameDetector s t ∧ SameMonitor s t ∧ t.out.pubValid = false) ∧
    (s.takesOpto → t.hist.read s.hidx = s.sample ∧ t.hidx = (s.hidx + 1) % s.params.win ∧
      t.count = min (s.count + 1) s.params.win)

/-- R41, R51, R54: two states that differ only in `HIST` slots not yet stored and, while idle, in `FRAME` show the same outputs and stay so
related. -/
def Obligations.UnwrittenMemoryIsUnobservable : Prop :=
  ∀ (s t : State) (h : Memory 16) (f : Memory 8), s.Inv → State.Inv { s with hist := h, frame := f } →
    (∀ i, i < s.count → h.read i = s.hist.read i) → (s.txIdx ≠ 8 → ∀ i, f.read i = s.frame.read i) →
    step s = .next t →
    ∃ (h' : Memory 16) (f' : Memory 8), step { s with hist := h, frame := f } = .next { t with hist := h', frame := f' } ∧
      (∀ i, i < t.count → h'.read i = t.hist.read i) ∧ (t.txIdx ≠ 8 → ∀ i, f'.read i = t.frame.read i)

/-! ## The detector and the monitor -/

/-- R112, the no-chatter law: between two optical samples that fire an edge, with no reset between, some optical sample leaves the peak with
`ac < LOW_TH`. -/
def Obligations.NoChatterBetweenEdges : Prop :=
  ∀ (s a b : State) (i j : Nat), i < j → s.Inv → runN i s = .next a → runN j s = .next b → a.edgeNow → b.edgeNow →
    resetFree (j - i) a →
    ∃ (k : Nat) (c : State), i < k ∧ k < j ∧ runN k s = .next c ∧ c.takesOpto ∧ c.inPeak = true ∧
      c.acNow < (c.params.lowTh : Int)

/-- R113: in every step that starts in a legal state, `pulse_q` rises only at an entry sample, and falls only at an optical sample that starts
outside the peak and has `ac <= HIGH_TH`, or in a reset cycle. -/
def Obligations.PulseRisesAtEntryAndFallsAfterExit : Prop :=
  ∀ s t : State, s.Inv → step s = .next t → s.rst = false →
    (s.pulseQ = false → t.pulseQ = true → s.edgeNow) ∧
    (s.pulseQ = true → t.pulseQ = false → s.takesOpto ∧ s.inPeak = false ∧ s.acNow ≤ (s.params.highTh : Int))

/-- R121, the timeout law: with no edge, the first optical sample more than TIMEOUT ticks after the baseline publishes TimedOut, no sample
before it publishes, and none after it publishes TimedOut until an edge. -/
def Obligations.OneTimeoutPerSilence : Prop :=
  ∀ (s u v : State) (n : Nat), s.Inv → s.timedOut = false → resetFree (n + 1) s → runN n s = .next u → step u = .next v →
    (∀ k c, k ≤ n → runN k s = .next c → ¬ c.edgeNow) →
    (∀ k c, k < n → runN k s = .next c → c.takesOpto → (tsdiff c.ts s.prevTs).toNat ≤ s.params.timeout) →
    u.takesOpto → (tsdiff u.ts s.prevTs).toNat > s.params.timeout →
    (v.out.pubValid = true ∧ v.out.pubKind = true ∧ v.timedOut = true) ∧
    (∀ k c d, k < n → runN k s = .next c → step c = .next d → d.out.pubValid = false) ∧
    ∀ (m : Nat) (w x : State), resetFree (m + 1) v → runN m v = .next w → step w = .next x →
      (∀ k c, k < m → runN k v = .next c → ¬ c.edgeNow) → ¬ (x.out.pubValid = true ∧ x.out.pubKind = true)

/-- R38 item 8, R122: with `rst = 0`, `pending_period` changes exactly with a publish event, to the period of a measurement or 0 for a
timeout; and only a publish leaves OPTO. -/
def Obligations.PendingPeriodIsTheLastPublish : Prop :=
  ∀ s t : State, s.Inv → step s = .next t → s.rst = false →
    (t.out.pubValid = true → t.pendingPeriod = t.out.pubPeriod ∧ t.seq = 1) ∧
    (t.out.pubValid = false → t.pendingPeriod = s.pendingPeriod)

/-! ## The transmitter -/

/-- R133, R63: the bytes the sink takes in any reset-free run, then the unsent rest, are the unsent rest at the start, then the accepted frames
whole and in order. -/
def Obligations.SinkReceivesWholeFramesInOrder : Prop :=
  ∀ (s t : State) (n : Nat), s.Inv → resetFree n s → runN n s = .next t →
    sentBytes n s ++ t.unsent = s.unsent ++ (acceptedFrames n s).flatten

/-- R134: a second TRY_SEND right after a first is rejected and sets the latch; a step sets the latch only with a rejected frame; and once
set it stays set in every reset-free run. -/
def Obligations.FailureLatchIsSticky : Prop :=
  (∀ s : State, s.txIdx = 8 → ∃ t u, exec .trySend s = .next t ∧ t.wires.ok = true ∧ exec .trySend t = .next u ∧
    u.wires.ok = false ∧ u.failLatch = true) ∧
  (∀ s t : State, step s = .next t → s.failLatch = false → t.failLatch = true → t.out.sendEv = 2) ∧
  ∀ (s t : State) (n : Nat), s.failLatch = true → resetFree n s → runN n s = .next t → t.failLatch = true

/-- R160: in every cycle with `rst = 0`, whatever the sequencer does, a pending byte goes to a ready sink, and without readiness none does. -/
def Obligations.TransmitterDrainsInEveryCycle : Prop :=
  ∀ s t : State, s.Inv → step s = .next t → s.rst = false →
    (s.txIdx ≠ 8 → s.txReady = true →
      Instr.drainOne ∈ decode s.dv ∧ t.out.txWe = true ∧ t.out.txData = s.frame.read s.txIdx.toNat ∧
      (t.out.sendEv ≠ 1 → t.txIdx.toNat = s.txIdx.toNat + 1)) ∧
    (s.txIdx = 8 ∨ s.txReady = false → t.out.txWe = false ∧ (t.out.sendEv ≠ 1 → t.txIdx = s.txIdx))

/-- R204: in a cycle with both the drain of byte 7 and SAMPLE_CURR, the last byte goes out and the new frame is accepted. -/
def Obligations.DrainOfLastByteFreesTheTransmitter : Prop :=
  ∀ s : State, s.Inv → s.rst = false → s.seq = 2 → s.convBusy = true → s.adcDone = true → s.txReady = true →
    s.txIdx = 7 →
    ∃ t, step s = .next t ∧ t.out.txWe = true ∧ t.out.txData = s.frame.read 7 ∧ t.out.sendEv = 1 ∧ t.txIdx = 0 ∧
      t.failLatch = s.failLatch ∧ t.frame.readFrom 0 8 = encodeFrame s.params.header s.frameFields

/-- R131 corner case 4, R203: a SAMPLE_CURR fewer than eight cycles after an accepted frame, with no reset between, is an overrun, even with
the sink ready throughout. -/
def Obligations.SendTooSoonOverruns : Prop :=
  ∀ (s t u : State) (n : Nat), s.Inv → step s = .next t → t.out.sendEv = 1 → n + 1 < 8 → resetFree (n + 1) t →
    runN n t = .next u → Instr.sampleCurr ∈ decode u.dv →
    ∃ v, step u = .next v ∧ v.out.sendEv = 2 ∧ v.failLatch = true ∧ v.statusQ = true ∧ v.seq = 0

/-- R211, R72: after every step from a state that meets the invariant `status_q` equals the latch, and `status_out` showed the latch as it
stood before the cycle. -/
def Obligations.StatusOutputLagsByOneCycle : Prop :=
  ∀ s t : State, s.Inv → step s = .next t → t.statusQ = t.failLatch ∧ t.out.statusOut = s.failLatch

/-! ## The sequencer -/

/-- R159, R22: the only changes of `seq`, by operation and event. -/
def Obligations.SequencerTransitions : Prop :=
  ∀ s t : State, s.Inv → step s = .next t →
    (s.rst = true → t.seq = 0) ∧
    (s.rst = false →
      (Instr.sampleOpto ∈ decode s.dv → s.seq = 0 ∧ t.seq = (if t.out.pubValid = true then 1 else 0)) ∧
      (Instr.sampleVolt ∈ decode s.dv → s.seq = 1 ∧ t.seq = 2) ∧
      (Instr.sampleCurr ∈ decode s.dv → s.seq = 2 ∧ t.seq = 0) ∧
      (Instr.sampleOpto ∉ decode s.dv → Instr.sampleVolt ∉ decode s.dv → Instr.sampleCurr ∉ decode s.dv → t.seq = s.seq) ∧
      (t.convBusy = true ↔ Instr.convStart ∈ decode s.dv ∨ Instr.wait ∈ decode s.dv))

/-- R159, R213: after a publishing SAMPLE_OPTO its SAMPLE_CURR comes at the fourth cycle at the earliest. -/
def Obligations.PublishToSendTakesFourCycles : Prop :=
  ∀ (s t u : State) (n : Nat), s.Inv → step s = .next t → t.out.pubValid = true → runN n t = .next u →
    Instr.sampleCurr ∈ decode u.dv → 4 ≤ n + 1

/-- R152, R154, R205: a cycle that starts with `conv_busy = 0` starts a conversion on the channel `seq`, and a completion in it reaches no register:
the step is the same whatever `adc_done`, `adc_data` and `ts` are. -/
def Obligations.UnrequestedCompletionIsDiscarded : Prop :=
  ∀ (s : State) (x : Inputs) (done : Bool) (d t : Half) (vs : List IV), s.Inv → s.convBusy = false → x.rst = false →
    ∃ u, step { s with inputs := encodeIv x :: vs } = .next u ∧ u.out.adcStart = true ∧ u.out.adcCh = s.seq ∧
      u.convBusy = true ∧ u.seq = s.seq ∧
      step { s with inputs := encodeIv { x with adcDone := done, adcData := d, ts := t } :: vs } = .next u

/-- R84: the bits of `adc_data` at and above ADC_W reach nothing: two inputs that differ only in them give the same step. -/
def Obligations.UnusedDataBitsAreIgnored : Prop :=
  ∀ (s : State) (x : Inputs) (d : Half) (vs : List IV),
    d.toNat % 2 ^ s.params.adcW = x.adcData.toNat % 2 ^ s.params.adcW →
    step { s with inputs := encodeIv x :: vs } = step { s with inputs := encodeIv { x with adcData := d } :: vs }

/-- R71, R82: `ts` matters only in a SAMPLE_OPTO cycle, and `adc_data` only in a SAMPLE_* cycle. -/
def Obligations.InputsAreReadOnlyWhenSampling : Prop :=
  ∀ (s : State) (x : Inputs) (d t : Half) (vs : List IV),
    (¬ State.takesOpto { s with inputs := encodeIv x :: vs } →
      step { s with inputs := encodeIv x :: vs } = step { s with inputs := encodeIv { x with ts := t } :: vs }) ∧
    (¬ (x.rst = false ∧ s.convBusy = true ∧ x.adcDone = true) →
      step { s with inputs := encodeIv x :: vs } =
        step { s with inputs := encodeIv { x with adcData := d, ts := t } :: vs })
end

