-- ==== Sys2Proof/Laws/Decode.lean ====
section
/-! SUPPORT. What the decoder answers: the firing order of R150, read off the fields of the decode vector, and the low bits of a
sample. -/

namespace Sys2Proof

/-- Every decode vector is the one of its fields. -/
theorem decode_of_fields (rst : Bool) (seq : BitVec 2) (busy done ready pending : Bool) :
    decode (encodeDv rst seq busy done ready pending) =
      if rst then [.reset]
      else if seq = 3 then [.reservedSeq]
      else (if ready && pending then [.drainOne] else []) ++
        (if busy = false then .convStart :: (if done then [.ignoreDone] else [])
         else if done = false then [.wait]
         else if seq = 0 then [.sampleOpto]
         else if seq = 1 then [.sampleVolt]
         else [.sampleCurr]) := by
  revert seq
  cases rst <;> cases busy <;> cases done <;> cases ready <;> cases pending <;> decide

theorem lowBits_toNat (n : Nat) (v : Half) : (lowBits n v).toNat = v.toNat % 2 ^ n := by
  have h : v.toNat % 2 ^ n < 2 ^ 16 := Nat.lt_of_le_of_lt (Nat.mod_le _ _) v.isLt
  simp only [lowBits, BitVec.toNat_ofNat]
  exact Nat.mod_eq_of_lt h

theorem lowBits_lt (n : Nat) (v : Half) : (lowBits n v).toNat < 2 ^ n := by
  rw [lowBits_toNat]; exact Nat.mod_lt _ (Nat.two_pow_pos n)

/-- A value with no bit at or above `n` is its own low bits. -/
theorem lowBits_eq_self_iff (n : Nat) (v : Half) : lowBits n v = v ↔ v.toNat < 2 ^ n := by
  constructor
  · intro h; rw [← h]; exact lowBits_lt n v
  · intro h
    apply BitVec.eq_of_toNat_eq
    rw [lowBits_toNat, Nat.mod_eq_of_lt h]

end Sys2Proof
end

