-- ==== Sys2Proof/Laws/Memory.lean ====
section
/-! SUPPORT. The memory primitives: a read after a write, the canonical form kept by every operation, and the stored sum as a
sum of reads. -/

namespace Sys2Proof.Machine

variable {w : Nat}

theorem Memory.wfFrom_mono {m : Memory w} {j k : Nat} (hjk : j ≤ k) (h : Memory.wfFrom k m = true) :
    Memory.wfFrom j m = true := by
  cases m with
  | nil => rfl
  | cons p m =>
    obtain ⟨b, x⟩ := p
    simp only [Memory.wfFrom, Bool.and_eq_true, decide_eq_true_eq] at h ⊢
    exact ⟨⟨by omega, h.1.2⟩, h.2⟩

/-- Below a canonical memory's first index every entry reads as 0. -/
theorem Memory.read_below {m : Memory w} {k a : Nat} (h : Memory.wfFrom k m = true) (ha : a < k) : m.read a = 0#w := by
  induction m generalizing k with
  | nil => rfl
  | cons p m ih =>
    obtain ⟨b, x⟩ := p
    simp only [Memory.wfFrom, Bool.and_eq_true, decide_eq_true_eq] at h
    have hab : a ≠ b := by omega
    simp only [Memory.read, hab, if_false]
    exact ih h.2 (by omega)

/-- A canonical memory lists no entry 0. -/
theorem Memory.ne_zero_of_mem {m : Memory w} {k : Nat} (h : Memory.wfFrom k m = true) {c : Nat × BitVec w} (hc : c ∈ m) :
    c.2 ≠ 0#w := by
  induction m generalizing k with
  | nil => cases hc
  | cons d m ih =>
    simp only [Memory.wfFrom, Bool.and_eq_true, decide_eq_true_eq] at h
    rcases List.mem_cons.1 hc with rfl | hm
    · exact h.1.2
    · exact ih h.2 hm

/-- A write keeps the canonical form. -/
theorem Memory.write_wfFrom {m : Memory w} {k a : Nat} {v : BitVec w} (h : Memory.wfFrom k m = true) (ha : k ≤ a) :
    Memory.wfFrom k (m.write a v) = true := by
  induction m generalizing k with
  | nil => simp only [Memory.write]; split <;> simp_all [Memory.wfFrom]
  | cons p m ih =>
    obtain ⟨b, x⟩ := p
    have hc := h
    simp only [Memory.wfFrom, Bool.and_eq_true, decide_eq_true_eq] at h
    obtain ⟨⟨hk, hx⟩, hm⟩ := h
    simp only [Memory.write]
    by_cases hab : a < b
    · simp only [hab, if_true]
      split
      · exact hc
      · simp only [Memory.wfFrom, Bool.and_eq_true, decide_eq_true_eq]
        exact ⟨⟨ha, ‹_›⟩, ⟨⟨by omega, hx⟩, hm⟩⟩
    · by_cases hEq : a = b
      · subst hEq
        simp only [Nat.lt_irrefl, if_true, if_false]
        split
        · exact Memory.wfFrom_mono (by omega) hm
        · simp only [Memory.wfFrom, Bool.and_eq_true, decide_eq_true_eq]
          exact ⟨⟨ha, ‹_›⟩, hm⟩
      · simp only [hab, hEq, if_false, Memory.wfFrom, Bool.and_eq_true, decide_eq_true_eq]
        exact ⟨⟨hk, hx⟩, ih hm (by omega)⟩

theorem Memory.write_wf {m : Memory w} {a : Nat} {v : BitVec w} (h : m.wf = true) : (m.write a v).wf = true :=
  Memory.write_wfFrom h (Nat.zero_le a)

theorem Memory.read_write_of_wfFrom {m : Memory w} {k : Nat} (h : Memory.wfFrom k m = true) (a c : Nat) (v : BitVec w) :
    (m.write a v).read c = if c = a then v else m.read c := by
  induction m generalizing k with
  | nil =>
    simp only [Memory.write]
    by_cases hv : v = 0#w <;> by_cases hc : c = a <;> simp [hv, hc, Memory.read]
  | cons p m ih =>
    obtain ⟨b, x⟩ := p
    simp only [Memory.wfFrom, Bool.and_eq_true, decide_eq_true_eq] at h
    obtain ⟨_, hm⟩ := h
    simp only [Memory.write]
    by_cases hab : a < b
    · simp only [hab, if_true]
      by_cases hc : c = a
      · subst hc
        by_cases hv : v = 0#w
        · have hcb : c ≠ b := by omega
          simp [hv, Memory.read, hcb, Memory.read_below hm (by omega : c < b + 1)]
        · simp [hv, Memory.read]
      · by_cases hv : v = 0#w <;> simp [hv, Memory.read, hc]
    · by_cases hEq : a = b
      · subst hEq
        simp only [Nat.lt_irrefl, if_true, if_false]
        by_cases hc : c = a
        · subst hc
          by_cases hv : v = 0#w
          · simp [hv, Memory.read_below hm (Nat.lt_succ_self c)]
          · simp [hv, Memory.read]
        · by_cases hv : v = 0#w <;> simp [hv, Memory.read, hc]
      · simp only [hab, hEq, if_false, Memory.read]
        by_cases hcb : c = b
        · subst hcb
          have hca : c ≠ a := fun e => hEq e.symm
          simp [hca]
        · simp only [hcb, if_false]
          exact ih hm

/-- A read after a write: the value written at its index, the old entry everywhere else. -/
theorem Memory.read_write {m : Memory w} (h : m.wf = true) (a c : Nat) (v : BitVec w) :
    (m.write a v).read c = if c = a then v else m.read c :=
  Memory.read_write_of_wfFrom h a c v

/-- A read at the index just written gives the value written. -/
theorem Memory.read_write_same {m : Memory w} (h : m.wf = true) (a : Nat) (v : BitVec w) : (m.write a v).read a = v := by
  rw [Memory.read_write h, if_pos rfl]

/-- A write leaves every other entry alone. -/
theorem Memory.read_write_other {m : Memory w} (h : m.wf = true) {a c : Nat} (hca : c ≠ a) (v : BitVec w) :
    (m.write a v).read c = m.read c := by
  rw [Memory.read_write h, if_neg hca]

theorem Memory.writeFrom_wf {m : Memory w} (h : m.wf = true) (k : Nat) (vs : List (BitVec w)) :
    (m.writeFrom k vs).wf = true := by
  induction vs generalizing m k with
  | nil => exact h
  | cons v vs ih => exact ih (Memory.write_wf h) (k + 1)

/-- A canonical memory's entries all pass a check exactly when every index does: listed ones by their entry, unlisted ones as 0. -/
theorem Memory.all_iff_of_wfFrom {m : Memory w} {k : Nat} (h : Memory.wfFrom k m = true) {p : Nat → BitVec w → Prop}
    (h0 : ∀ i, p i 0#w) : (∀ c ∈ m, p c.1 c.2) ↔ ∀ i, p i (m.read i) := by
  induction m generalizing k with
  | nil => simp [Memory.read, h0]
  | cons c m ih =>
    obtain ⟨b, x⟩ := c
    simp only [Memory.wfFrom, Bool.and_eq_true, decide_eq_true_eq] at h
    simp only [List.mem_cons, forall_eq_or_imp, ih h.2, Memory.read]
    constructor
    · rintro ⟨hx, hm⟩ i
      by_cases hi : i = b
      · simpa [hi] using hx
      · simpa [hi] using hm i
    · intro hm
      refine ⟨by simpa using hm b, fun i => ?_⟩
      by_cases hi : i = b
      · rw [hi, Memory.read_below h.2 (Nat.lt_succ_self b)]; exact h0 b
      · simpa [hi] using hm i

/-- What fitting means for the reads: no entry outside the index range, every entry below the bound. -/
theorem Memory.fits_iff {m : Memory w} {n bound : Nat} (hb : 0 < bound) :
    m.fits n bound = true ↔
      m.wf = true ∧ (∀ i, n ≤ i → m.read i = 0#w) ∧ ∀ i, (m.read i).toNat < bound := by
  simp only [Memory.fits, Bool.and_eq_true, List.all_eq_true, decide_eq_true_eq]
  refine and_congr_right fun h => ?_
  constructor
  · intro hm
    have hz := (Memory.all_iff_of_wfFrom h (p := fun i x => n ≤ i → x = 0#w) fun _ _ => rfl).1
      fun c hc hn => absurd (hm c hc).1 (by omega)
    exact ⟨hz, (Memory.all_iff_of_wfFrom h (p := fun _ x => x.toNat < bound) fun _ => by simpa using hb).1
      fun c hc => (hm c hc).2⟩
  · rintro ⟨hz, hv⟩ c hc
    have hx := (Memory.all_iff_of_wfFrom h (p := fun _ x => x.toNat < bound) fun _ => by simpa using hb).2 hv c hc
    refine ⟨?_, hx⟩
    by_contra hn
    exact Memory.ne_zero_of_mem h hc
      ((Memory.all_iff_of_wfFrom h (p := fun i x => n ≤ i → x = 0#w) fun _ _ => rfl).2 hz c hc (by omega))

/-- A write inside the ranges keeps a fitting memory fitting. -/
theorem Memory.write_fits {m : Memory w} {n bound a : Nat} {v : BitVec w} (h : m.fits n bound = true) (ha : a < n)
    (hv : v.toNat < bound) : (m.write a v).fits n bound = true := by
  have hb : 0 < bound := by omega
  obtain ⟨hw, hz, hx⟩ := (Memory.fits_iff hb).1 h
  refine (Memory.fits_iff hb).2 ⟨Memory.write_wf hw, fun i hi => ?_, fun i => ?_⟩
  · rw [Memory.read_write_other hw (by omega)]; exact hz i hi
  · rw [Memory.read_write hw]; split
    · exact hv
    · exact hx i

/-- A run of writes changes the entries from `k` on, one for each value, and no other. -/
theorem Memory.read_writeFrom {m : Memory w} (h : m.wf = true) (k : Nat) (vs : List (BitVec w)) (c : Nat) :
    (m.writeFrom k vs).read c = if k ≤ c ∧ c < k + vs.length then vs.getD (c - k) 0 else m.read c := by
  induction vs generalizing m k with
  | nil =>
    have : ¬ (k ≤ c ∧ c < k + 0) := by omega
    simp only [Memory.writeFrom, List.length_nil, this, if_false]
  | cons v vs ih =>
    simp only [Memory.writeFrom, ih (Memory.write_wf h) (k + 1), Memory.read_write h, List.length_cons]
    by_cases hk : c = k
    · subst hk
      have h1 : ¬ (c + 1 ≤ c ∧ c < c + 1 + vs.length) := by omega
      have h2 : c ≤ c ∧ c < c + (vs.length + 1) := by omega
      rw [if_neg h1, if_pos rfl, if_pos h2]; simp
    · by_cases h1 : k + 1 ≤ c ∧ c < k + 1 + vs.length
      · have h2 : k ≤ c ∧ c < k + (vs.length + 1) := by omega
        rw [if_pos h1, if_pos h2]
        have : c - k = (c - (k + 1)) + 1 := by omega
        rw [this]; simp
      · have h2 : ¬ (k ≤ c ∧ c < k + (vs.length + 1)) := by omega
        rw [if_neg h1, if_neg h2, if_neg hk]

theorem Memory.sumBelow_eq_zero {m : Memory w} {k n : Nat} (h : Memory.wfFrom k m = true) (hn : n ≤ k) :
    m.sumBelow n = 0 := by
  induction m generalizing k with
  | nil => rfl
  | cons p m ih =>
    obtain ⟨b, x⟩ := p
    simp only [Memory.wfFrom, Bool.and_eq_true, decide_eq_true_eq] at h
    have hb : ¬ b < n := by omega
    simp only [Memory.sumBelow, hb, if_false, Nat.zero_add]
    exact ih h.2 (by omega)

theorem Memory.sumBelow_eq_sum_of_wfFrom {m : Memory w} {k : Nat} (h : Memory.wfFrom k m = true) (n : Nat) :
    m.sumBelow n = ∑ i ∈ Finset.range n, (m.read i).toNat := by
  induction m generalizing k with
  | nil => simp [Memory.sumBelow, Memory.read]
  | cons p m ih =>
    obtain ⟨b, x⟩ := p
    simp only [Memory.wfFrom, Bool.and_eq_true, decide_eq_true_eq] at h
    have hb0 : Memory.read m b = 0#w := Memory.read_below h.2 (Nat.lt_succ_self b)
    have hsplit : ∀ i, (Memory.read ((b, x) :: m) i).toNat = (Memory.read m i).toNat + (if i = b then x.toNat else 0) := by
      intro i
      by_cases hi : i = b
      · subst hi; simp [Memory.read, hb0]
      · simp [Memory.read, hi]
    simp only [Memory.sumBelow, ih h.2, hsplit, Finset.sum_add_distrib, Finset.sum_ite_eq', Finset.mem_range]
    omega

/-- The stored sum is the sum of the reads below `n` (R27). -/
theorem Memory.sumBelow_eq_sum {m : Memory w} (h : m.wf = true) (n : Nat) :
    m.sumBelow n = ∑ i ∈ Finset.range n, (m.read i).toNat :=
  Memory.sumBelow_eq_sum_of_wfFrom h n

theorem Memory.readFrom_length (m : Memory w) (k n : Nat) : (m.readFrom k n).length = n := by
  induction n generalizing k with
  | zero => rfl
  | succ n ih => simp [Memory.readFrom, ih]

end Sys2Proof.Machine
end

