-- ==== Sys2Proof/Laws/State.lean ====
section
/-! SUPPORT. The state's updates, field by field: one lemma per field per update, each true by rfl, so that no later proof
unfolds a record update. -/

namespace Sys2Proof.Machine

/-! ## raiseOverrun -/

@[simp] theorem State.raiseOverrun_seq (s : State) : s.raiseOverrun.seq = s.seq := rfl
@[simp] theorem State.raiseOverrun_convBusy (s : State) : s.raiseOverrun.convBusy = s.convBusy := rfl
@[simp] theorem State.raiseOverrun_count (s : State) : s.raiseOverrun.count = s.count := rfl
@[simp] theorem State.raiseOverrun_hidx (s : State) : s.raiseOverrun.hidx = s.hidx := rfl
@[simp] theorem State.raiseOverrun_sum (s : State) : s.raiseOverrun.sum = s.sum := rfl
@[simp] theorem State.raiseOverrun_hist (s : State) : s.raiseOverrun.hist = s.hist := rfl
@[simp] theorem State.raiseOverrun_inPeak (s : State) : s.raiseOverrun.inPeak = s.inPeak := rfl
@[simp] theorem State.raiseOverrun_pulseQ (s : State) : s.raiseOverrun.pulseQ = s.pulseQ := rfl
@[simp] theorem State.raiseOverrun_prevTs (s : State) : s.raiseOverrun.prevTs = s.prevTs := rfl
@[simp] theorem State.raiseOverrun_timedOut (s : State) : s.raiseOverrun.timedOut = s.timedOut := rfl
@[simp] theorem State.raiseOverrun_pendingPeriod (s : State) : s.raiseOverrun.pendingPeriod = s.pendingPeriod := rfl
@[simp] theorem State.raiseOverrun_voltQ (s : State) : s.raiseOverrun.voltQ = s.voltQ := rfl
@[simp] theorem State.raiseOverrun_frame (s : State) : s.raiseOverrun.frame = s.frame := rfl
@[simp] theorem State.raiseOverrun_txIdx (s : State) : s.raiseOverrun.txIdx = s.txIdx := rfl
@[simp] theorem State.raiseOverrun_failLatch (s : State) : s.raiseOverrun.failLatch = true := rfl
@[simp] theorem State.raiseOverrun_statusQ (s : State) : s.raiseOverrun.statusQ = s.statusQ := rfl
@[simp] theorem State.raiseOverrun_params (s : State) : s.raiseOverrun.params = s.params := rfl
@[simp] theorem State.raiseOverrun_inputs (s : State) : s.raiseOverrun.inputs = s.inputs := rfl
@[simp] theorem State.raiseOverrun_cycle (s : State) : s.raiseOverrun.cycle = s.cycle := rfl
@[simp] theorem State.raiseOverrun_wires (s : State) : s.raiseOverrun.wires = s.wires := rfl
@[simp] theorem State.raiseOverrun_out (s : State) : s.raiseOverrun.out = s.out := rfl

/-! ## emitStart -/

@[simp] theorem State.emitStart_seq (s : State) : s.emitStart.seq = s.seq := rfl
@[simp] theorem State.emitStart_convBusy (s : State) : s.emitStart.convBusy = s.convBusy := rfl
@[simp] theorem State.emitStart_count (s : State) : s.emitStart.count = s.count := rfl
@[simp] theorem State.emitStart_hidx (s : State) : s.emitStart.hidx = s.hidx := rfl
@[simp] theorem State.emitStart_sum (s : State) : s.emitStart.sum = s.sum := rfl
@[simp] theorem State.emitStart_hist (s : State) : s.emitStart.hist = s.hist := rfl
@[simp] theorem State.emitStart_inPeak (s : State) : s.emitStart.inPeak = s.inPeak := rfl
@[simp] theorem State.emitStart_pulseQ (s : State) : s.emitStart.pulseQ = s.pulseQ := rfl
@[simp] theorem State.emitStart_prevTs (s : State) : s.emitStart.prevTs = s.prevTs := rfl
@[simp] theorem State.emitStart_timedOut (s : State) : s.emitStart.timedOut = s.timedOut := rfl
@[simp] theorem State.emitStart_pendingPeriod (s : State) : s.emitStart.pendingPeriod = s.pendingPeriod := rfl
@[simp] theorem State.emitStart_voltQ (s : State) : s.emitStart.voltQ = s.voltQ := rfl
@[simp] theorem State.emitStart_frame (s : State) : s.emitStart.frame = s.frame := rfl
@[simp] theorem State.emitStart_txIdx (s : State) : s.emitStart.txIdx = s.txIdx := rfl
@[simp] theorem State.emitStart_failLatch (s : State) : s.emitStart.failLatch = s.failLatch := rfl
@[simp] theorem State.emitStart_statusQ (s : State) : s.emitStart.statusQ = s.statusQ := rfl
@[simp] theorem State.emitStart_params (s : State) : s.emitStart.params = s.params := rfl
@[simp] theorem State.emitStart_inputs (s : State) : s.emitStart.inputs = s.inputs := rfl
@[simp] theorem State.emitStart_cycle (s : State) : s.emitStart.cycle = s.cycle := rfl
@[simp] theorem State.emitStart_wires (s : State) : s.emitStart.wires = s.wires := rfl
@[simp] theorem State.emitStart_out (s : State) : s.emitStart.out = { s.out with adcStart := true, adcCh := s.seq } := rfl

/-! ## emitByte -/

@[simp] theorem State.emitByte_seq (s : State) (b : Byte) : (s.emitByte b).seq = s.seq := rfl
@[simp] theorem State.emitByte_convBusy (s : State) (b : Byte) : (s.emitByte b).convBusy = s.convBusy := rfl
@[simp] theorem State.emitByte_count (s : State) (b : Byte) : (s.emitByte b).count = s.count := rfl
@[simp] theorem State.emitByte_hidx (s : State) (b : Byte) : (s.emitByte b).hidx = s.hidx := rfl
@[simp] theorem State.emitByte_sum (s : State) (b : Byte) : (s.emitByte b).sum = s.sum := rfl
@[simp] theorem State.emitByte_hist (s : State) (b : Byte) : (s.emitByte b).hist = s.hist := rfl
@[simp] theorem State.emitByte_inPeak (s : State) (b : Byte) : (s.emitByte b).inPeak = s.inPeak := rfl
@[simp] theorem State.emitByte_pulseQ (s : State) (b : Byte) : (s.emitByte b).pulseQ = s.pulseQ := rfl
@[simp] theorem State.emitByte_prevTs (s : State) (b : Byte) : (s.emitByte b).prevTs = s.prevTs := rfl
@[simp] theorem State.emitByte_timedOut (s : State) (b : Byte) : (s.emitByte b).timedOut = s.timedOut := rfl
@[simp] theorem State.emitByte_pendingPeriod (s : State) (b : Byte) : (s.emitByte b).pendingPeriod = s.pendingPeriod := rfl
@[simp] theorem State.emitByte_voltQ (s : State) (b : Byte) : (s.emitByte b).voltQ = s.voltQ := rfl
@[simp] theorem State.emitByte_frame (s : State) (b : Byte) : (s.emitByte b).frame = s.frame := rfl
@[simp] theorem State.emitByte_txIdx (s : State) (b : Byte) : (s.emitByte b).txIdx = s.txIdx := rfl
@[simp] theorem State.emitByte_failLatch (s : State) (b : Byte) : (s.emitByte b).failLatch = s.failLatch := rfl
@[simp] theorem State.emitByte_statusQ (s : State) (b : Byte) : (s.emitByte b).statusQ = s.statusQ := rfl
@[simp] theorem State.emitByte_params (s : State) (b : Byte) : (s.emitByte b).params = s.params := rfl
@[simp] theorem State.emitByte_inputs (s : State) (b : Byte) : (s.emitByte b).inputs = s.inputs := rfl
@[simp] theorem State.emitByte_cycle (s : State) (b : Byte) : (s.emitByte b).cycle = s.cycle := rfl
@[simp] theorem State.emitByte_wires (s : State) (b : Byte) : (s.emitByte b).wires = s.wires := rfl
@[simp] theorem State.emitByte_out (s : State) (b : Byte) :
    (s.emitByte b).out = { s.out with txWe := true, txData := b } := rfl

/-! ## emitPublish -/

@[simp] theorem State.emitPublish_seq (s : State) (e : PublishEvent) : (s.emitPublish e).seq = s.seq := rfl
@[simp] theorem State.emitPublish_convBusy (s : State) (e : PublishEvent) : (s.emitPublish e).convBusy = s.convBusy := rfl
@[simp] theorem State.emitPublish_count (s : State) (e : PublishEvent) : (s.emitPublish e).count = s.count := rfl
@[simp] theorem State.emitPublish_hidx (s : State) (e : PublishEvent) : (s.emitPublish e).hidx = s.hidx := rfl
@[simp] theorem State.emitPublish_sum (s : State) (e : PublishEvent) : (s.emitPublish e).sum = s.sum := rfl
@[simp] theorem State.emitPublish_hist (s : State) (e : PublishEvent) : (s.emitPublish e).hist = s.hist := rfl
@[simp] theorem State.emitPublish_inPeak (s : State) (e : PublishEvent) : (s.emitPublish e).inPeak = s.inPeak := rfl
@[simp] theorem State.emitPublish_pulseQ (s : State) (e : PublishEvent) : (s.emitPublish e).pulseQ = s.pulseQ := rfl
@[simp] theorem State.emitPublish_prevTs (s : State) (e : PublishEvent) : (s.emitPublish e).prevTs = s.prevTs := rfl
@[simp] theorem State.emitPublish_timedOut (s : State) (e : PublishEvent) : (s.emitPublish e).timedOut = s.timedOut := rfl
@[simp] theorem State.emitPublish_pendingPeriod (s : State) (e : PublishEvent) :
    (s.emitPublish e).pendingPeriod = s.pendingPeriod := rfl
@[simp] theorem State.emitPublish_voltQ (s : State) (e : PublishEvent) : (s.emitPublish e).voltQ = s.voltQ := rfl
@[simp] theorem State.emitPublish_frame (s : State) (e : PublishEvent) : (s.emitPublish e).frame = s.frame := rfl
@[simp] theorem State.emitPublish_txIdx (s : State) (e : PublishEvent) : (s.emitPublish e).txIdx = s.txIdx := rfl
@[simp] theorem State.emitPublish_failLatch (s : State) (e : PublishEvent) : (s.emitPublish e).failLatch = s.failLatch := rfl
@[simp] theorem State.emitPublish_statusQ (s : State) (e : PublishEvent) : (s.emitPublish e).statusQ = s.statusQ := rfl
@[simp] theorem State.emitPublish_params (s : State) (e : PublishEvent) : (s.emitPublish e).params = s.params := rfl
@[simp] theorem State.emitPublish_inputs (s : State) (e : PublishEvent) : (s.emitPublish e).inputs = s.inputs := rfl
@[simp] theorem State.emitPublish_cycle (s : State) (e : PublishEvent) : (s.emitPublish e).cycle = s.cycle := rfl
@[simp] theorem State.emitPublish_wires (s : State) (e : PublishEvent) : (s.emitPublish e).wires = s.wires := rfl
@[simp] theorem State.emitPublish_out (s : State) (e : PublishEvent) :
    (s.emitPublish e).out = { s.out with pubValid := encodePubValid e, pubKind := encodePubKind e, pubPeriod := encodePubPeriod e } := rfl

/-! ## emitSend -/

@[simp] theorem State.emitSend_seq (s : State) (e : SendOutcome) : (s.emitSend e).seq = s.seq := rfl
@[simp] theorem State.emitSend_convBusy (s : State) (e : SendOutcome) : (s.emitSend e).convBusy = s.convBusy := rfl
@[simp] theorem State.emitSend_count (s : State) (e : SendOutcome) : (s.emitSend e).count = s.count := rfl
@[simp] theorem State.emitSend_hidx (s : State) (e : SendOutcome) : (s.emitSend e).hidx = s.hidx := rfl
@[simp] theorem State.emitSend_sum (s : State) (e : SendOutcome) : (s.emitSend e).sum = s.sum := rfl
@[simp] theorem State.emitSend_hist (s : State) (e : SendOutcome) : (s.emitSend e).hist = s.hist := rfl
@[simp] theorem State.emitSend_inPeak (s : State) (e : SendOutcome) : (s.emitSend e).inPeak = s.inPeak := rfl
@[simp] theorem State.emitSend_pulseQ (s : State) (e : SendOutcome) : (s.emitSend e).pulseQ = s.pulseQ := rfl
@[simp] theorem State.emitSend_prevTs (s : State) (e : SendOutcome) : (s.emitSend e).prevTs = s.prevTs := rfl
@[simp] theorem State.emitSend_timedOut (s : State) (e : SendOutcome) : (s.emitSend e).timedOut = s.timedOut := rfl
@[simp] theorem State.emitSend_pendingPeriod (s : State) (e : SendOutcome) :
    (s.emitSend e).pendingPeriod = s.pendingPeriod := rfl
@[simp] theorem State.emitSend_voltQ (s : State) (e : SendOutcome) : (s.emitSend e).voltQ = s.voltQ := rfl
@[simp] theorem State.emitSend_frame (s : State) (e : SendOutcome) : (s.emitSend e).frame = s.frame := rfl
@[simp] theorem State.emitSend_txIdx (s : State) (e : SendOutcome) : (s.emitSend e).txIdx = s.txIdx := rfl
@[simp] theorem State.emitSend_failLatch (s : State) (e : SendOutcome) : (s.emitSend e).failLatch = s.failLatch := rfl
@[simp] theorem State.emitSend_statusQ (s : State) (e : SendOutcome) : (s.emitSend e).statusQ = s.statusQ := rfl
@[simp] theorem State.emitSend_params (s : State) (e : SendOutcome) : (s.emitSend e).params = s.params := rfl
@[simp] theorem State.emitSend_inputs (s : State) (e : SendOutcome) : (s.emitSend e).inputs = s.inputs := rfl
@[simp] theorem State.emitSend_cycle (s : State) (e : SendOutcome) : (s.emitSend e).cycle = s.cycle := rfl
@[simp] theorem State.emitSend_wires (s : State) (e : SendOutcome) : (s.emitSend e).wires = s.wires := rfl
@[simp] theorem State.emitSend_out (s : State) (e : SendOutcome) :
    (s.emitSend e).out = { s.out with sendEv := encodeSend e } := rfl

/-! ## beginCycle -/

@[simp] theorem State.beginCycle_seq (s : State) : s.beginCycle.seq = s.seq := rfl
@[simp] theorem State.beginCycle_convBusy (s : State) : s.beginCycle.convBusy = s.convBusy := rfl
@[simp] theorem State.beginCycle_count (s : State) : s.beginCycle.count = s.count := rfl
@[simp] theorem State.beginCycle_hidx (s : State) : s.beginCycle.hidx = s.hidx := rfl
@[simp] theorem State.beginCycle_sum (s : State) : s.beginCycle.sum = s.sum := rfl
@[simp] theorem State.beginCycle_hist (s : State) : s.beginCycle.hist = s.hist := rfl
@[simp] theorem State.beginCycle_inPeak (s : State) : s.beginCycle.inPeak = s.inPeak := rfl
@[simp] theorem State.beginCycle_pulseQ (s : State) : s.beginCycle.pulseQ = s.pulseQ := rfl
@[simp] theorem State.beginCycle_prevTs (s : State) : s.beginCycle.prevTs = s.prevTs := rfl
@[simp] theorem State.beginCycle_timedOut (s : State) : s.beginCycle.timedOut = s.timedOut := rfl
@[simp] theorem State.beginCycle_pendingPeriod (s : State) : s.beginCycle.pendingPeriod = s.pendingPeriod := rfl
@[simp] theorem State.beginCycle_voltQ (s : State) : s.beginCycle.voltQ = s.voltQ := rfl
@[simp] theorem State.beginCycle_frame (s : State) : s.beginCycle.frame = s.frame := rfl
@[simp] theorem State.beginCycle_txIdx (s : State) : s.beginCycle.txIdx = s.txIdx := rfl
@[simp] theorem State.beginCycle_failLatch (s : State) : s.beginCycle.failLatch = s.failLatch := rfl
@[simp] theorem State.beginCycle_statusQ (s : State) : s.beginCycle.statusQ = s.statusQ := rfl
@[simp] theorem State.beginCycle_params (s : State) : s.beginCycle.params = s.params := rfl
@[simp] theorem State.beginCycle_inputs (s : State) : s.beginCycle.inputs = s.inputs := rfl
@[simp] theorem State.beginCycle_cycle (s : State) : s.beginCycle.cycle = s.cycle := rfl
@[simp] theorem State.beginCycle_wires (s : State) : s.beginCycle.wires = Wires.idle := rfl
@[simp] theorem State.beginCycle_out (s : State) :
    s.beginCycle.out = { idleOutputs with pulseOut := s.pulseQ, statusOut := s.statusQ, adcCh := s.seq } := rfl

/-! ## endCycle -/

@[simp] theorem State.endCycle_seq (s : State) : s.endCycle.seq = s.seq := rfl
@[simp] theorem State.endCycle_convBusy (s : State) : s.endCycle.convBusy = s.convBusy := rfl
@[simp] theorem State.endCycle_count (s : State) : s.endCycle.count = s.count := rfl
@[simp] theorem State.endCycle_hidx (s : State) : s.endCycle.hidx = s.hidx := rfl
@[simp] theorem State.endCycle_sum (s : State) : s.endCycle.sum = s.sum := rfl
@[simp] theorem State.endCycle_hist (s : State) : s.endCycle.hist = s.hist := rfl
@[simp] theorem State.endCycle_inPeak (s : State) : s.endCycle.inPeak = s.inPeak := rfl
@[simp] theorem State.endCycle_pulseQ (s : State) : s.endCycle.pulseQ = s.pulseQ := rfl
@[simp] theorem State.endCycle_prevTs (s : State) : s.endCycle.prevTs = s.prevTs := rfl
@[simp] theorem State.endCycle_timedOut (s : State) : s.endCycle.timedOut = s.timedOut := rfl
@[simp] theorem State.endCycle_pendingPeriod (s : State) : s.endCycle.pendingPeriod = s.pendingPeriod := rfl
@[simp] theorem State.endCycle_voltQ (s : State) : s.endCycle.voltQ = s.voltQ := rfl
@[simp] theorem State.endCycle_frame (s : State) : s.endCycle.frame = s.frame := rfl
@[simp] theorem State.endCycle_txIdx (s : State) : s.endCycle.txIdx = s.txIdx := rfl
@[simp] theorem State.endCycle_failLatch (s : State) : s.endCycle.failLatch = s.failLatch := rfl
@[simp] theorem State.endCycle_statusQ (s : State) : s.endCycle.statusQ = s.statusQ := rfl
@[simp] theorem State.endCycle_params (s : State) : s.endCycle.params = s.params := rfl
@[simp] theorem State.endCycle_inputs (s : State) : s.endCycle.inputs = s.inputs.tail := rfl
@[simp] theorem State.endCycle_cycle (s : State) : s.endCycle.cycle = s.cycle + 1 := rfl
@[simp] theorem State.endCycle_wires (s : State) : s.endCycle.wires = Wires.idle := rfl
@[simp] theorem State.endCycle_out (s : State) : s.endCycle.out = s.out := rfl

/-! ## resetRegisters -/

@[simp] theorem State.resetRegisters_seq (s : State) : s.resetRegisters.seq = 0 := rfl
@[simp] theorem State.resetRegisters_convBusy (s : State) : s.resetRegisters.convBusy = false := rfl
@[simp] theorem State.resetRegisters_count (s : State) : s.resetRegisters.count = 0 := rfl
@[simp] theorem State.resetRegisters_hidx (s : State) : s.resetRegisters.hidx = 0 := rfl
@[simp] theorem State.resetRegisters_sum (s : State) : s.resetRegisters.sum = 0 := rfl
@[simp] theorem State.resetRegisters_hist (s : State) : s.resetRegisters.hist = s.hist := rfl
@[simp] theorem State.resetRegisters_inPeak (s : State) : s.resetRegisters.inPeak = false := rfl
@[simp] theorem State.resetRegisters_pulseQ (s : State) : s.resetRegisters.pulseQ = false := rfl
@[simp] theorem State.resetRegisters_prevTs (s : State) : s.resetRegisters.prevTs = s.params.pmPrevReset := rfl
@[simp] theorem State.resetRegisters_timedOut (s : State) : s.resetRegisters.timedOut = s.params.pmToReset := rfl
@[simp] theorem State.resetRegisters_pendingPeriod (s : State) : s.resetRegisters.pendingPeriod = 0 := rfl
@[simp] theorem State.resetRegisters_voltQ (s : State) : s.resetRegisters.voltQ = 0 := rfl
@[simp] theorem State.resetRegisters_frame (s : State) : s.resetRegisters.frame = s.frame := rfl
@[simp] theorem State.resetRegisters_txIdx (s : State) : s.resetRegisters.txIdx = 8 := rfl
@[simp] theorem State.resetRegisters_failLatch (s : State) : s.resetRegisters.failLatch = false := rfl
@[simp] theorem State.resetRegisters_statusQ (s : State) : s.resetRegisters.statusQ = false := rfl
@[simp] theorem State.resetRegisters_params (s : State) : s.resetRegisters.params = s.params := rfl
@[simp] theorem State.resetRegisters_inputs (s : State) : s.resetRegisters.inputs = s.inputs := rfl
@[simp] theorem State.resetRegisters_cycle (s : State) : s.resetRegisters.cycle = s.cycle := rfl
@[simp] theorem State.resetRegisters_wires (s : State) : s.resetRegisters.wires = Wires.idle := rfl
@[simp] theorem State.resetRegisters_out (s : State) :
    s.resetRegisters.out = { idleOutputs with pulseOut := s.pulseQ, statusOut := s.statusQ } := rfl

/-! ## trackerFill -/

@[simp] theorem State.trackerFill_seq (s : State) (x : Half) : (s.trackerFill x).seq = s.seq := rfl
@[simp] theorem State.trackerFill_convBusy (s : State) (x : Half) : (s.trackerFill x).convBusy = s.convBusy := rfl
@[simp] theorem State.trackerFill_count (s : State) (x : Half) : (s.trackerFill x).count = s.count + 1 := rfl
@[simp] theorem State.trackerFill_hidx (s : State) (x : Half) : (s.trackerFill x).hidx = (s.hidx + 1) % s.params.win := rfl
@[simp] theorem State.trackerFill_sum (s : State) (x : Half) : (s.trackerFill x).sum = s.sum + x.toNat := rfl
@[simp] theorem State.trackerFill_hist (s : State) (x : Half) : (s.trackerFill x).hist = s.hist.write s.hidx x := rfl
@[simp] theorem State.trackerFill_inPeak (s : State) (x : Half) : (s.trackerFill x).inPeak = s.inPeak := rfl
@[simp] theorem State.trackerFill_pulseQ (s : State) (x : Half) : (s.trackerFill x).pulseQ = s.pulseQ := rfl
@[simp] theorem State.trackerFill_prevTs (s : State) (x : Half) : (s.trackerFill x).prevTs = s.prevTs := rfl
@[simp] theorem State.trackerFill_timedOut (s : State) (x : Half) : (s.trackerFill x).timedOut = s.timedOut := rfl
@[simp] theorem State.trackerFill_pendingPeriod (s : State) (x : Half) :
    (s.trackerFill x).pendingPeriod = s.pendingPeriod := rfl
@[simp] theorem State.trackerFill_voltQ (s : State) (x : Half) : (s.trackerFill x).voltQ = s.voltQ := rfl
@[simp] theorem State.trackerFill_frame (s : State) (x : Half) : (s.trackerFill x).frame = s.frame := rfl
@[simp] theorem State.trackerFill_txIdx (s : State) (x : Half) : (s.trackerFill x).txIdx = s.txIdx := rfl
@[simp] theorem State.trackerFill_failLatch (s : State) (x : Half) : (s.trackerFill x).failLatch = s.failLatch := rfl
@[simp] theorem State.trackerFill_statusQ (s : State) (x : Half) : (s.trackerFill x).statusQ = s.statusQ := rfl
@[simp] theorem State.trackerFill_params (s : State) (x : Half) : (s.trackerFill x).params = s.params := rfl
@[simp] theorem State.trackerFill_inputs (s : State) (x : Half) : (s.trackerFill x).inputs = s.inputs := rfl
@[simp] theorem State.trackerFill_cycle (s : State) (x : Half) : (s.trackerFill x).cycle = s.cycle := rfl
@[simp] theorem State.trackerFill_wires (s : State) (x : Half) :
    (s.trackerFill x).wires = { s.wires with dc := (s.sum + x.toNat) / (s.count + 1) } := rfl
@[simp] theorem State.trackerFill_out (s : State) (x : Half) : (s.trackerFill x).out = s.out := rfl

/-! ## trackerEvict -/

@[simp] theorem State.trackerEvict_seq (s : State) (x : Half) : (s.trackerEvict x).seq = s.seq := rfl
@[simp] theorem State.trackerEvict_convBusy (s : State) (x : Half) : (s.trackerEvict x).convBusy = s.convBusy := rfl
@[simp] theorem State.trackerEvict_count (s : State) (x : Half) : (s.trackerEvict x).count = s.count := rfl
@[simp] theorem State.trackerEvict_hidx (s : State) (x : Half) : (s.trackerEvict x).hidx = (s.hidx + 1) % s.params.win := rfl
@[simp] theorem State.trackerEvict_sum (s : State) (x : Half) :
    (s.trackerEvict x).sum = s.sum - s.oldest.toNat + x.toNat := rfl
@[simp] theorem State.trackerEvict_hist (s : State) (x : Half) : (s.trackerEvict x).hist = s.hist.write s.hidx x := rfl
@[simp] theorem State.trackerEvict_inPeak (s : State) (x : Half) : (s.trackerEvict x).inPeak = s.inPeak := rfl
@[simp] theorem State.trackerEvict_pulseQ (s : State) (x : Half) : (s.trackerEvict x).pulseQ = s.pulseQ := rfl
@[simp] theorem State.trackerEvict_prevTs (s : State) (x : Half) : (s.trackerEvict x).prevTs = s.prevTs := rfl
@[simp] theorem State.trackerEvict_timedOut (s : State) (x : Half) : (s.trackerEvict x).timedOut = s.timedOut := rfl
@[simp] theorem State.trackerEvict_pendingPeriod (s : State) (x : Half) :
    (s.trackerEvict x).pendingPeriod = s.pendingPeriod := rfl
@[simp] theorem State.trackerEvict_voltQ (s : State) (x : Half) : (s.trackerEvict x).voltQ = s.voltQ := rfl
@[simp] theorem State.trackerEvict_frame (s : State) (x : Half) : (s.trackerEvict x).frame = s.frame := rfl
@[simp] theorem State.trackerEvict_txIdx (s : State) (x : Half) : (s.trackerEvict x).txIdx = s.txIdx := rfl
@[simp] theorem State.trackerEvict_failLatch (s : State) (x : Half) : (s.trackerEvict x).failLatch = s.failLatch := rfl
@[simp] theorem State.trackerEvict_statusQ (s : State) (x : Half) : (s.trackerEvict x).statusQ = s.statusQ := rfl
@[simp] theorem State.trackerEvict_params (s : State) (x : Half) : (s.trackerEvict x).params = s.params := rfl
@[simp] theorem State.trackerEvict_inputs (s : State) (x : Half) : (s.trackerEvict x).inputs = s.inputs := rfl
@[simp] theorem State.trackerEvict_cycle (s : State) (x : Half) : (s.trackerEvict x).cycle = s.cycle := rfl
@[simp] theorem State.trackerEvict_wires (s : State) (x : Half) :
    (s.trackerEvict x).wires = { s.wires with dc := (s.sum - s.oldest.toNat + x.toNat) / s.params.win } := rfl
@[simp] theorem State.trackerEvict_out (s : State) (x : Half) : (s.trackerEvict x).out = s.out := rfl

/-! ## edgeDetect -/

@[simp] theorem edgeDetect_seq (s : State) : (edgeDetect s).seq = s.seq := rfl
@[simp] theorem edgeDetect_convBusy (s : State) : (edgeDetect s).convBusy = s.convBusy := rfl
@[simp] theorem edgeDetect_count (s : State) : (edgeDetect s).count = s.count := rfl
@[simp] theorem edgeDetect_hidx (s : State) : (edgeDetect s).hidx = s.hidx := rfl
@[simp] theorem edgeDetect_sum (s : State) : (edgeDetect s).sum = s.sum := rfl
@[simp] theorem edgeDetect_hist (s : State) : (edgeDetect s).hist = s.hist := rfl
@[simp] theorem edgeDetect_inPeak (s : State) : (edgeDetect s).inPeak = s.nextInPeak := rfl
@[simp] theorem edgeDetect_pulseQ (s : State) : (edgeDetect s).pulseQ = s.nextPulse := rfl
@[simp] theorem edgeDetect_prevTs (s : State) : (edgeDetect s).prevTs = s.prevTs := rfl
@[simp] theorem edgeDetect_timedOut (s : State) : (edgeDetect s).timedOut = s.timedOut := rfl
@[simp] theorem edgeDetect_pendingPeriod (s : State) : (edgeDetect s).pendingPeriod = s.pendingPeriod := rfl
@[simp] theorem edgeDetect_voltQ (s : State) : (edgeDetect s).voltQ = s.voltQ := rfl
@[simp] theorem edgeDetect_frame (s : State) : (edgeDetect s).frame = s.frame := rfl
@[simp] theorem edgeDetect_txIdx (s : State) : (edgeDetect s).txIdx = s.txIdx := rfl
@[simp] theorem edgeDetect_failLatch (s : State) : (edgeDetect s).failLatch = s.failLatch := rfl
@[simp] theorem edgeDetect_statusQ (s : State) : (edgeDetect s).statusQ = s.statusQ := rfl
@[simp] theorem edgeDetect_params (s : State) : (edgeDetect s).params = s.params := rfl
@[simp] theorem edgeDetect_inputs (s : State) : (edgeDetect s).inputs = s.inputs := rfl
@[simp] theorem edgeDetect_cycle (s : State) : (edgeDetect s).cycle = s.cycle := rfl
@[simp] theorem edgeDetect_wires (s : State) :
    (edgeDetect s).wires = { s.wires with ac := s.acSignal, edge := s.edgeFired } := rfl
@[simp] theorem edgeDetect_out (s : State) : (edgeDetect s).out = s.out := rfl

/-! ## periodObserve -/

@[simp] theorem periodObserve_seq (s : State) : (periodObserve s).seq = s.seq := rfl
@[simp] theorem periodObserve_convBusy (s : State) : (periodObserve s).convBusy = s.convBusy := rfl
@[simp] theorem periodObserve_count (s : State) : (periodObserve s).count = s.count := rfl
@[simp] theorem periodObserve_hidx (s : State) : (periodObserve s).hidx = s.hidx := rfl
@[simp] theorem periodObserve_sum (s : State) : (periodObserve s).sum = s.sum := rfl
@[simp] theorem periodObserve_hist (s : State) : (periodObserve s).hist = s.hist := rfl
@[simp] theorem periodObserve_inPeak (s : State) : (periodObserve s).inPeak = s.inPeak := rfl
@[simp] theorem periodObserve_pulseQ (s : State) : (periodObserve s).pulseQ = s.pulseQ := rfl
@[simp] theorem periodObserve_prevTs (s : State) : (periodObserve s).prevTs = s.nextPrevTs := rfl
@[simp] theorem periodObserve_timedOut (s : State) : (periodObserve s).timedOut = s.nextTimedOut := rfl
@[simp] theorem periodObserve_pendingPeriod (s : State) : (periodObserve s).pendingPeriod = s.pendingPeriod := rfl
@[simp] theorem periodObserve_voltQ (s : State) : (periodObserve s).voltQ = s.voltQ := rfl
@[simp] theorem periodObserve_frame (s : State) : (periodObserve s).frame = s.frame := rfl
@[simp] theorem periodObserve_txIdx (s : State) : (periodObserve s).txIdx = s.txIdx := rfl
@[simp] theorem periodObserve_failLatch (s : State) : (periodObserve s).failLatch = s.failLatch := rfl
@[simp] theorem periodObserve_statusQ (s : State) : (periodObserve s).statusQ = s.statusQ := rfl
@[simp] theorem periodObserve_params (s : State) : (periodObserve s).params = s.params := rfl
@[simp] theorem periodObserve_inputs (s : State) : (periodObserve s).inputs = s.inputs := rfl
@[simp] theorem periodObserve_cycle (s : State) : (periodObserve s).cycle = s.cycle := rfl
@[simp] theorem periodObserve_wires (s : State) : (periodObserve s).wires = { s.wires with event := s.monitorEvent } := rfl
@[simp] theorem periodObserve_out (s : State) : (periodObserve s).out = (s.emitPublish s.monitorEvent).out := rfl

/-! ## frameEncode -/

@[simp] theorem frameEncode_seq (s : State) : (frameEncode s).seq = s.seq := rfl
@[simp] theorem frameEncode_convBusy (s : State) : (frameEncode s).convBusy = s.convBusy := rfl
@[simp] theorem frameEncode_count (s : State) : (frameEncode s).count = s.count := rfl
@[simp] theorem frameEncode_hidx (s : State) : (frameEncode s).hidx = s.hidx := rfl
@[simp] theorem frameEncode_sum (s : State) : (frameEncode s).sum = s.sum := rfl
@[simp] theorem frameEncode_hist (s : State) : (frameEncode s).hist = s.hist := rfl
@[simp] theorem frameEncode_inPeak (s : State) : (frameEncode s).inPeak = s.inPeak := rfl
@[simp] theorem frameEncode_pulseQ (s : State) : (frameEncode s).pulseQ = s.pulseQ := rfl
@[simp] theorem frameEncode_prevTs (s : State) : (frameEncode s).prevTs = s.prevTs := rfl
@[simp] theorem frameEncode_timedOut (s : State) : (frameEncode s).timedOut = s.timedOut := rfl
@[simp] theorem frameEncode_pendingPeriod (s : State) : (frameEncode s).pendingPeriod = s.pendingPeriod := rfl
@[simp] theorem frameEncode_voltQ (s : State) : (frameEncode s).voltQ = s.voltQ := rfl
@[simp] theorem frameEncode_frame (s : State) : (frameEncode s).frame = s.frame := rfl
@[simp] theorem frameEncode_txIdx (s : State) : (frameEncode s).txIdx = s.txIdx := rfl
@[simp] theorem frameEncode_failLatch (s : State) : (frameEncode s).failLatch = s.failLatch := rfl
@[simp] theorem frameEncode_statusQ (s : State) : (frameEncode s).statusQ = s.statusQ := rfl
@[simp] theorem frameEncode_params (s : State) : (frameEncode s).params = s.params := rfl
@[simp] theorem frameEncode_inputs (s : State) : (frameEncode s).inputs = s.inputs := rfl
@[simp] theorem frameEncode_cycle (s : State) : (frameEncode s).cycle = s.cycle := rfl
@[simp] theorem frameEncode_wires (s : State) :
    (frameEncode s).wires = { s.wires with bytes := encodeFrame s.params.header s.frameFields } := rfl
@[simp] theorem frameEncode_out (s : State) : (frameEncode s).out = s.out := rfl

/-! ## acceptFrame -/

@[simp] theorem State.acceptFrame_seq (s : State) : s.acceptFrame.seq = s.seq := rfl
@[simp] theorem State.acceptFrame_convBusy (s : State) : s.acceptFrame.convBusy = s.convBusy := rfl
@[simp] theorem State.acceptFrame_count (s : State) : s.acceptFrame.count = s.count := rfl
@[simp] theorem State.acceptFrame_hidx (s : State) : s.acceptFrame.hidx = s.hidx := rfl
@[simp] theorem State.acceptFrame_sum (s : State) : s.acceptFrame.sum = s.sum := rfl
@[simp] theorem State.acceptFrame_hist (s : State) : s.acceptFrame.hist = s.hist := rfl
@[simp] theorem State.acceptFrame_inPeak (s : State) : s.acceptFrame.inPeak = s.inPeak := rfl
@[simp] theorem State.acceptFrame_pulseQ (s : State) : s.acceptFrame.pulseQ = s.pulseQ := rfl
@[simp] theorem State.acceptFrame_prevTs (s : State) : s.acceptFrame.prevTs = s.prevTs := rfl
@[simp] theorem State.acceptFrame_timedOut (s : State) : s.acceptFrame.timedOut = s.timedOut := rfl
@[simp] theorem State.acceptFrame_pendingPeriod (s : State) : s.acceptFrame.pendingPeriod = s.pendingPeriod := rfl
@[simp] theorem State.acceptFrame_voltQ (s : State) : s.acceptFrame.voltQ = s.voltQ := rfl
@[simp] theorem State.acceptFrame_frame (s : State) :
    s.acceptFrame.frame = s.frame.writeFrom 0 (encodeFrame s.params.header s.frameFields) := rfl
@[simp] theorem State.acceptFrame_txIdx (s : State) : s.acceptFrame.txIdx = 0 := rfl
@[simp] theorem State.acceptFrame_failLatch (s : State) : s.acceptFrame.failLatch = s.failLatch := rfl
@[simp] theorem State.acceptFrame_statusQ (s : State) : s.acceptFrame.statusQ = s.statusQ := rfl
@[simp] theorem State.acceptFrame_params (s : State) : s.acceptFrame.params = s.params := rfl
@[simp] theorem State.acceptFrame_inputs (s : State) : s.acceptFrame.inputs = s.inputs := rfl
@[simp] theorem State.acceptFrame_cycle (s : State) : s.acceptFrame.cycle = s.cycle := rfl
@[simp] theorem State.acceptFrame_wires (s : State) :
    s.acceptFrame.wires = { s.wires with bytes := encodeFrame s.params.header s.frameFields, ok := true } := rfl
@[simp] theorem State.acceptFrame_out (s : State) : s.acceptFrame.out = { s.out with sendEv := 1 } := rfl

/-! ## rejectFrame -/

@[simp] theorem State.rejectFrame_seq (s : State) : s.rejectFrame.seq = s.seq := rfl
@[simp] theorem State.rejectFrame_convBusy (s : State) : s.rejectFrame.convBusy = s.convBusy := rfl
@[simp] theorem State.rejectFrame_count (s : State) : s.rejectFrame.count = s.count := rfl
@[simp] theorem State.rejectFrame_hidx (s : State) : s.rejectFrame.hidx = s.hidx := rfl
@[simp] theorem State.rejectFrame_sum (s : State) : s.rejectFrame.sum = s.sum := rfl
@[simp] theorem State.rejectFrame_hist (s : State) : s.rejectFrame.hist = s.hist := rfl
@[simp] theorem State.rejectFrame_inPeak (s : State) : s.rejectFrame.inPeak = s.inPeak := rfl
@[simp] theorem State.rejectFrame_pulseQ (s : State) : s.rejectFrame.pulseQ = s.pulseQ := rfl
@[simp] theorem State.rejectFrame_prevTs (s : State) : s.rejectFrame.prevTs = s.prevTs := rfl
@[simp] theorem State.rejectFrame_timedOut (s : State) : s.rejectFrame.timedOut = s.timedOut := rfl
@[simp] theorem State.rejectFrame_pendingPeriod (s : State) : s.rejectFrame.pendingPeriod = s.pendingPeriod := rfl
@[simp] theorem State.rejectFrame_voltQ (s : State) : s.rejectFrame.voltQ = s.voltQ := rfl
@[simp] theorem State.rejectFrame_frame (s : State) : s.rejectFrame.frame = s.frame := rfl
@[simp] theorem State.rejectFrame_txIdx (s : State) : s.rejectFrame.txIdx = s.txIdx := rfl
@[simp] theorem State.rejectFrame_failLatch (s : State) : s.rejectFrame.failLatch = true := rfl
@[simp] theorem State.rejectFrame_statusQ (s : State) : s.rejectFrame.statusQ = s.statusQ := rfl
@[simp] theorem State.rejectFrame_params (s : State) : s.rejectFrame.params = s.params := rfl
@[simp] theorem State.rejectFrame_inputs (s : State) : s.rejectFrame.inputs = s.inputs := rfl
@[simp] theorem State.rejectFrame_cycle (s : State) : s.rejectFrame.cycle = s.cycle := rfl
@[simp] theorem State.rejectFrame_wires (s : State) : s.rejectFrame.wires = { s.wires with ok := false } := rfl
@[simp] theorem State.rejectFrame_out (s : State) : s.rejectFrame.out = { s.out with sendEv := 2 } := rfl

/-! ## sendByte -/

@[simp] theorem State.sendByte_seq (s : State) : s.sendByte.seq = s.seq := rfl
@[simp] theorem State.sendByte_convBusy (s : State) : s.sendByte.convBusy = s.convBusy := rfl
@[simp] theorem State.sendByte_count (s : State) : s.sendByte.count = s.count := rfl
@[simp] theorem State.sendByte_hidx (s : State) : s.sendByte.hidx = s.hidx := rfl
@[simp] theorem State.sendByte_sum (s : State) : s.sendByte.sum = s.sum := rfl
@[simp] theorem State.sendByte_hist (s : State) : s.sendByte.hist = s.hist := rfl
@[simp] theorem State.sendByte_inPeak (s : State) : s.sendByte.inPeak = s.inPeak := rfl
@[simp] theorem State.sendByte_pulseQ (s : State) : s.sendByte.pulseQ = s.pulseQ := rfl
@[simp] theorem State.sendByte_prevTs (s : State) : s.sendByte.prevTs = s.prevTs := rfl
@[simp] theorem State.sendByte_timedOut (s : State) : s.sendByte.timedOut = s.timedOut := rfl
@[simp] theorem State.sendByte_pendingPeriod (s : State) : s.sendByte.pendingPeriod = s.pendingPeriod := rfl
@[simp] theorem State.sendByte_voltQ (s : State) : s.sendByte.voltQ = s.voltQ := rfl
@[simp] theorem State.sendByte_frame (s : State) : s.sendByte.frame = s.frame := rfl
@[simp] theorem State.sendByte_txIdx (s : State) : s.sendByte.txIdx = s.txIdx + 1 := rfl
@[simp] theorem State.sendByte_failLatch (s : State) : s.sendByte.failLatch = s.failLatch := rfl
@[simp] theorem State.sendByte_statusQ (s : State) : s.sendByte.statusQ = s.statusQ := rfl
@[simp] theorem State.sendByte_params (s : State) : s.sendByte.params = s.params := rfl
@[simp] theorem State.sendByte_inputs (s : State) : s.sendByte.inputs = s.inputs := rfl
@[simp] theorem State.sendByte_cycle (s : State) : s.sendByte.cycle = s.cycle := rfl
@[simp] theorem State.sendByte_wires (s : State) : s.sendByte.wires = s.wires := rfl
@[simp] theorem State.sendByte_out (s : State) :
    s.sendByte.out = { s.out with txWe := true, txData := s.frame.read s.txIdx.toNat } := rfl

/-! ## withSample -/

@[simp] theorem State.withSample_seq (s : State) (x : Half) : (s.withSample x).seq = s.seq := rfl
@[simp] theorem State.withSample_convBusy (s : State) (x : Half) : (s.withSample x).convBusy = s.convBusy := rfl
@[simp] theorem State.withSample_count (s : State) (x : Half) : (s.withSample x).count = s.count := rfl
@[simp] theorem State.withSample_hidx (s : State) (x : Half) : (s.withSample x).hidx = s.hidx := rfl
@[simp] theorem State.withSample_sum (s : State) (x : Half) : (s.withSample x).sum = s.sum := rfl
@[simp] theorem State.withSample_hist (s : State) (x : Half) : (s.withSample x).hist = s.hist := rfl
@[simp] theorem State.withSample_inPeak (s : State) (x : Half) : (s.withSample x).inPeak = s.inPeak := rfl
@[simp] theorem State.withSample_pulseQ (s : State) (x : Half) : (s.withSample x).pulseQ = s.pulseQ := rfl
@[simp] theorem State.withSample_prevTs (s : State) (x : Half) : (s.withSample x).prevTs = s.prevTs := rfl
@[simp] theorem State.withSample_timedOut (s : State) (x : Half) : (s.withSample x).timedOut = s.timedOut := rfl
@[simp] theorem State.withSample_pendingPeriod (s : State) (x : Half) :
    (s.withSample x).pendingPeriod = s.pendingPeriod := rfl
@[simp] theorem State.withSample_voltQ (s : State) (x : Half) : (s.withSample x).voltQ = s.voltQ := rfl
@[simp] theorem State.withSample_frame (s : State) (x : Half) : (s.withSample x).frame = s.frame := rfl
@[simp] theorem State.withSample_txIdx (s : State) (x : Half) : (s.withSample x).txIdx = s.txIdx := rfl
@[simp] theorem State.withSample_failLatch (s : State) (x : Half) : (s.withSample x).failLatch = s.failLatch := rfl
@[simp] theorem State.withSample_statusQ (s : State) (x : Half) : (s.withSample x).statusQ = s.statusQ := rfl
@[simp] theorem State.withSample_params (s : State) (x : Half) : (s.withSample x).params = s.params := rfl
@[simp] theorem State.withSample_inputs (s : State) (x : Half) :
    (s.withSample x).inputs = [encodeIv ⟨false, true, false, x, 0⟩] := rfl
@[simp] theorem State.withSample_cycle (s : State) (x : Half) : (s.withSample x).cycle = s.cycle := rfl
@[simp] theorem State.withSample_wires (s : State) (x : Half) : (s.withSample x).wires = s.wires := rfl
@[simp] theorem State.withSample_out (s : State) (x : Half) : (s.withSample x).out = s.out := rfl

/-! ## takeEvent -/

@[simp] theorem State.takeEvent_convBusy (s : State) : s.takeEvent.convBusy = s.convBusy := by
  unfold State.takeEvent; split <;> rfl
@[simp] theorem State.takeEvent_count (s : State) : s.takeEvent.count = s.count := by
  unfold State.takeEvent; split <;> rfl
@[simp] theorem State.takeEvent_hidx (s : State) : s.takeEvent.hidx = s.hidx := by
  unfold State.takeEvent; split <;> rfl
@[simp] theorem State.takeEvent_sum (s : State) : s.takeEvent.sum = s.sum := by
  unfold State.takeEvent; split <;> rfl
@[simp] theorem State.takeEvent_hist (s : State) : s.takeEvent.hist = s.hist := by
  unfold State.takeEvent; split <;> rfl
@[simp] theorem State.takeEvent_inPeak (s : State) : s.takeEvent.inPeak = s.inPeak := by
  unfold State.takeEvent; split <;> rfl
@[simp] theorem State.takeEvent_pulseQ (s : State) : s.takeEvent.pulseQ = s.pulseQ := by
  unfold State.takeEvent; split <;> rfl
@[simp] theorem State.takeEvent_prevTs (s : State) : s.takeEvent.prevTs = s.prevTs := by
  unfold State.takeEvent; split <;> rfl
@[simp] theorem State.takeEvent_timedOut (s : State) : s.takeEvent.timedOut = s.timedOut := by
  unfold State.takeEvent; split <;> rfl
@[simp] theorem State.takeEvent_voltQ (s : State) : s.takeEvent.voltQ = s.voltQ := by
  unfold State.takeEvent; split <;> rfl
@[simp] theorem State.takeEvent_frame (s : State) : s.takeEvent.frame = s.frame := by
  unfold State.takeEvent; split <;> rfl
@[simp] theorem State.takeEvent_txIdx (s : State) : s.takeEvent.txIdx = s.txIdx := by
  unfold State.takeEvent; split <;> rfl
@[simp] theorem State.takeEvent_failLatch (s : State) : s.takeEvent.failLatch = s.failLatch := by
  unfold State.takeEvent; split <;> rfl
@[simp] theorem State.takeEvent_statusQ (s : State) : s.takeEvent.statusQ = s.statusQ := by
  unfold State.takeEvent; split <;> rfl
@[simp] theorem State.takeEvent_params (s : State) : s.takeEvent.params = s.params := by
  unfold State.takeEvent; split <;> rfl
@[simp] theorem State.takeEvent_inputs (s : State) : s.takeEvent.inputs = s.inputs := by
  unfold State.takeEvent; split <;> rfl
@[simp] theorem State.takeEvent_cycle (s : State) : s.takeEvent.cycle = s.cycle := by
  unfold State.takeEvent; split <;> rfl
@[simp] theorem State.takeEvent_wires (s : State) : s.takeEvent.wires = s.wires := by
  unfold State.takeEvent; split <;> rfl
@[simp] theorem State.takeEvent_out (s : State) : s.takeEvent.out = s.out := by
  unfold State.takeEvent; split <;> rfl

@[simp] theorem State.takeEvent_seq (s : State) :
    s.takeEvent.seq = if s.wires.event = .none then s.seq else 1 := by
  unfold State.takeEvent; split <;> simp_all

@[simp] theorem State.takeEvent_pendingPeriod (s : State) :
    s.takeEvent.pendingPeriod = if s.wires.event = .none then s.pendingPeriod else encodePubPeriod s.wires.event := by
  unfold State.takeEvent; split <;> simp_all [encodePubPeriod]

end Sys2Proof.Machine
end

