-- ==== Sys2Proof/Laws/Ops.lean ====
section
/-! SUPPORT. One lemma per shared operation that says once what it can do, so that no later proof unfolds it. -/

namespace Sys2Proof.Machine

/-! ## Sequencing -/

@[simp] theorem andThen_next (s : State) (f : State → Result) : andThen (.next s) f = f s := rfl
@[simp] theorem andThen_refused (r : Refusal) (f : State → Result) : andThen (.refused r) f = .refused r := rfl

/-- A sequence answers a next state exactly when both parts do. -/
theorem andThen_eq_next_iff {o : Result} {f : State → Result} {t : State} :
    andThen o f = .next t ↔ ∃ s, o = .next s ∧ f s = .next t := by
  cases o with
  | next s => simp [andThen]
  | fault r => cases r
  | refused r => simp [andThen]

@[simp] theorem runOps_nil (s : State) : runOps [] s = .next s := rfl
@[simp] theorem runOps_cons (i : Instr) (is : List Instr) (s : State) :
    runOps (i :: is) s = andThen (exec i s) (runOps is) := rfl

/-! ## The meanings, by constructor -/

@[simp] theorem exec_reset (s : State) : exec .reset s = .next s.resetRegisters := rfl
@[simp] theorem exec_reservedSeq (s : State) : exec .reservedSeq s = .refused .reservedSeq := rfl
@[simp] theorem exec_drainOne (s : State) : exec .drainOne s = drainOne s := rfl
@[simp] theorem exec_convStart (s : State) : exec .convStart s = .next { s.emitStart with convBusy := true } := rfl
@[simp] theorem exec_ignoreDone (s : State) : exec .ignoreDone s = .next s := rfl
@[simp] theorem exec_wait (s : State) : exec .wait s = .next s := rfl
@[simp] theorem exec_sampleVolt (s : State) :
    exec .sampleVolt s = .next { s with voltQ := s.sample, seq := 2, convBusy := false } := rfl
@[simp] theorem exec_dcUpdate (s : State) : exec .dcUpdate s = dcUpdate s := rfl
@[simp] theorem exec_edgeDetect (s : State) : exec .edgeDetect s = .next (edgeDetect s) := rfl
@[simp] theorem exec_periodObserve (s : State) : exec .periodObserve s = .next (periodObserve s) := rfl
@[simp] theorem exec_trySend (s : State) : exec .trySend s = trySend s := rfl
@[simp] theorem exec_frameEncode (s : State) : exec .frameEncode s = .next (frameEncode s) := rfl

/-! ## The tracker -/

/-- DC_UPDATE runs exactly when its index and count are in range and the sum covers the sample it evicts. -/
theorem trackerBroken_eq_none_iff (s : State) :
    s.trackerBroken = none ↔
      s.count ≤ s.params.win ∧ s.hidx < s.params.win ∧ (s.params.win ≤ s.count → s.oldest.toNat ≤ s.sum) := by
  unfold State.trackerBroken State.filling
  split <;> (try split) <;> (try split) <;> simp_all

/-- DC_UPDATE is the fill branch while filling. -/
theorem dcUpdate_fill {s : State} (hc : s.count < s.params.win) (hh : s.hidx < s.params.win) :
    dcUpdate s = .next (s.trackerFill s.sample) := by
  have hb : s.trackerBroken = none := (trackerBroken_eq_none_iff s).2 ⟨by omega, hh, fun h => by omega⟩
  simp [dcUpdate, hb, State.filling, hc]

/-- DC_UPDATE is the evicting branch at capacity. -/
theorem dcUpdate_evict {s : State} (hc : s.count = s.params.win) (hh : s.hidx < s.params.win)
    (ho : s.oldest.toNat ≤ s.sum) : dcUpdate s = .next (s.trackerEvict s.sample) := by
  have hb : s.trackerBroken = none := (trackerBroken_eq_none_iff s).2 ⟨by omega, hh, fun _ => ho⟩
  simp [dcUpdate, hb, State.filling, hc]

/-- If DC_UPDATE answers a next state, it is one of its two branches, with the guard that branch needs. -/
theorem dcUpdate_next {s t : State} (h : dcUpdate s = .next t) :
    s.hidx < s.params.win ∧
      ((s.count < s.params.win ∧ t = s.trackerFill s.sample) ∨
        (s.count = s.params.win ∧ s.oldest.toNat ≤ s.sum ∧ t = s.trackerEvict s.sample)) := by
  have hb : s.trackerBroken = none := by
    cases hb : s.trackerBroken with
    | none => rfl
    | some r => simp [dcUpdate, hb] at h
  obtain ⟨hc, hh, ho⟩ := (trackerBroken_eq_none_iff s).1 hb
  refine ⟨hh, ?_⟩
  by_cases hlt : s.count < s.params.win
  · rw [dcUpdate_fill hlt hh] at h
    cases h
    exact .inl ⟨hlt, rfl⟩
  · have hEq : s.count = s.params.win := by omega
    rw [dcUpdate_evict hEq hh (ho (by omega))] at h
    cases h
    exact .inr ⟨hEq, ho (by omega), rfl⟩

/-! ## The transmitter -/

/-- If TRY_SEND answers a next state, it accepted while idle or rejected while pending. -/
theorem trySend_next {s t : State} (h : trySend s = .next t) :
    (s.txIdx = 8 ∧ t = s.acceptFrame) ∨ (s.txIdx < 8 ∧ t = s.rejectFrame) := by
  unfold trySend at h
  split at h
  · cases h; exact .inl ⟨‹_›, rfl⟩
  · split at h
    · cases h; exact .inr ⟨‹_›, rfl⟩
    · cases h

/-- If DRAIN_ONE answers a next state, it sent a byte while pending and ready, or did nothing. -/
theorem drainOne_next {s t : State} (h : drainOne s = .next t) :
    ((s.txIdx = 8 ∨ s.txReady = false) ∧ t = s) ∨ (s.txIdx < 8 ∧ s.txReady = true ∧ t = s.sendByte) := by
  unfold drainOne at h
  split at h
  · cases h; exact .inl ⟨‹_›, rfl⟩
  · rename_i hn
    split at h
    · cases h
      refine .inr ⟨‹_›, ?_, rfl⟩
      cases hr : s.txReady with
      | true => rfl
      | false => exact absurd (.inr hr) hn
    · cases h

/-! ## The composite meanings -/

/-- If SAMPLE_OPTO answers a next state, its three sub-operations ran in order and the publish event was taken. -/
theorem sampleOpto_next {s t : State} (h : exec .sampleOpto s = .next t) :
    ∃ s1, dcUpdate s = .next s1 ∧ t = { (periodObserve (edgeDetect s1)).takeEvent with convBusy := false } := by
  obtain ⟨s1, h1, h2⟩ := andThen_eq_next_iff.1 h
  cases h2
  exact ⟨s1, h1, rfl⟩

/-- If SAMPLE_CURR answers a next state, TRY_SEND ran and then the status took the latch. -/
theorem sampleCurr_next {s t : State} (h : exec .sampleCurr s = .next t) :
    ∃ s1, trySend s = .next s1 ∧ t = { s1 with statusQ := s1.failLatch, seq := 0, convBusy := false } := by
  obtain ⟨s1, h1, h2⟩ := andThen_eq_next_iff.1 h
  cases h2
  exact ⟨s1, h1, rfl⟩

end Sys2Proof.Machine
end

