-- ==== Sys2Proof/Laws/Cycle.lean ====
section
/-! SUPPORT. What one step can do, said once: which states are refused, and which operations run on the others. -/

namespace Sys2Proof.Machine

/-- What `pendingBroken` looks for: item 8 of R38 as far as one state shows it. -/
theorem pendingBroken_eq_false_iff (s : State) :
    s.pendingBroken = false ↔ (s.seq = 1 ∨ s.seq = 2 → s.timedOut = true → s.pendingPeriod = 0) := by
  unfold State.pendingBroken
  cases s.timedOut <;> by_cases hp : s.pendingPeriod = 0 <;> simp [hp]

/-- The cycle finds nothing to refuse exactly in these states. -/
theorem broken_eq_none_iff (s : State) :
    s.broken = none ↔
      s.count ≤ s.params.win ∧ s.hidx < s.params.win ∧ s.txIdx ≤ 8 ∧ (s.count < s.params.win → s.hidx = s.count) ∧
        s.hist.fits s.params.win (2 ^ s.params.adcW) = true ∧ s.frame.fits 8 (2 ^ 8) = true ∧
        s.sum = s.hist.sumBelow s.count ∧ (s.inPeak = true → s.pulseQ = true) ∧ s.voltQ.toNat < 2 ^ s.params.adcW ∧
        (s.seq = 1 ∨ s.seq = 2 → s.timedOut = true → s.pendingPeriod = 0) ∧ s.statusQ = s.failLatch := by
  rw [← lowBits_eq_self_iff, ← pendingBroken_eq_false_iff]
  unfold State.broken State.filling
  split
  · simp; omega
  split
  · simp; omega
  split
  · rename_i h
    have h8 : ¬ s.txIdx ≤ 8 := by bv_omega
    simp only [reduceCtorEq, false_iff]
    exact fun hc => h8 hc.2.2.1
  iterate 8
    split
    · simp_all
  simp_all

/-- The decode vector's operations, in the order of R150. -/
theorem decode_dv (s : State) :
    decode s.dv =
      if s.rst then [.reset]
      else if s.seq = 3 then [.reservedSeq]
      else (if s.txReady && s.txPending then [.drainOne] else []) ++
        (if s.convBusy = false then .convStart :: (if s.adcDone then [.ignoreDone] else [])
         else if s.adcDone = false then [.wait]
         else if s.seq = 0 then [.sampleOpto]
         else if s.seq = 1 then [.sampleVolt]
         else [.sampleCurr]) :=
  decode_of_fields _ _ _ _ _ _

/-- A step answers a next state exactly when nothing is refused and the operations that fire answer one. -/
theorem step_eq_next_iff {s t : State} :
    step s = .next t ↔ s.refusedCycle = none ∧ ∃ u, runOps (decode s.dv) s.beginCycle = .next u ∧ t = u.endCycle := by
  unfold step runCycle
  cases h : s.refusedCycle with
  | some r => simp
  | none =>
    simp only [andThen_eq_next_iff, true_and]
    constructor
    · rintro ⟨u, hu, hv⟩; cases hv; exact ⟨u, hu, rfl⟩
    · rintro ⟨u, hu, rfl⟩; exact ⟨u, hu, rfl⟩

/-- A step that answers a next state with `rst = 0` started outside `seq = 3`, in a state with nothing broken. -/
theorem step_next_legal {s t : State} (h : step s = .next t) (hr : s.rst = false) : s.seq ≠ 3 ∧ s.broken = none := by
  obtain ⟨hc, u, hu, _⟩ := step_eq_next_iff.1 h
  have hs : s.seq ≠ 3 := by
    intro h3
    rw [decode_dv] at hu
    simp [hr, h3] at hu
  have h3 : (s.seq == 3) = false := by simpa using hs
  exact ⟨hs, by simpa only [State.refusedCycle, hr, h3, Bool.or_self, Bool.false_eq_true, if_false] using hc⟩

/-- The transmitter phase of a cycle (R150, phase 1): from `s` to `d`, a byte sent where one is pending and the sink is ready, else
nothing. -/
def DrainPhase (s d : State) : Prop :=
  (s.txIdx < 8 ∧ s.txReady = true ∧ d = s.sendByte) ∨ ((s.txIdx = 8 ∨ s.txReady = false) ∧ d = s)

/-- The sequencer phase of a cycle (R150, phase 2): from `d` to `u`, exactly one branch. -/
inductive SequencerPhase (d : State) : State → Prop where
  | start (hb : d.convBusy = false) : SequencerPhase d { d.emitStart with convBusy := true }
  | wait (hb : d.convBusy = true) (hd : d.adcDone = false) : SequencerPhase d d
  | opto (hb : d.convBusy = true) (hd : d.adcDone = true) (hs : d.seq = 0) (e : State) (he : dcUpdate d = .next e) :
      SequencerPhase d { (periodObserve (edgeDetect e)).takeEvent with convBusy := false }
  | volt (hb : d.convBusy = true) (hd : d.adcDone = true) (hs : d.seq = 1) :
      SequencerPhase d { d with voltQ := d.sample, seq := 2, convBusy := false }
  | curr (hb : d.convBusy = true) (hd : d.adcDone = true) (hs : d.seq = 2) (e : State) (he : trySend d = .next e) :
      SequencerPhase d { e with statusQ := e.failLatch, seq := 0, convBusy := false }

/-- The two phases leave alone what the decode vector is formed from, `tx_idx` apart. -/
theorem DrainPhase.same {s d : State} (h : DrainPhase s d) :
    d.seq = s.seq ∧ d.convBusy = s.convBusy ∧ d.inputs = s.inputs ∧ d.cycle = s.cycle ∧ d.params = s.params := by
  rcases h with ⟨_, _, rfl⟩ | ⟨_, rfl⟩ <;> simp

theorem State.iv_congr {s t : State} (hi : t.inputs = s.inputs) (hc : t.cycle = s.cycle) : t.iv = s.iv := by
  unfold State.iv; rw [hi, hc]

theorem DrainPhase.iv {s d : State} (h : DrainPhase s d) : d.iv = s.iv :=
  State.iv_congr h.same.2.2.1 h.same.2.2.2.1

@[simp] theorem State.beginCycle_iv (s : State) : s.beginCycle.iv = s.iv := rfl
@[simp] theorem State.beginCycle_txReady (s : State) : s.beginCycle.txReady = s.txReady := rfl
@[simp] theorem State.beginCycle_adcDone (s : State) : s.beginCycle.adcDone = s.adcDone := rfl
@[simp] theorem State.beginCycle_sample (s : State) : s.beginCycle.sample = s.sample := rfl
@[simp] theorem State.beginCycle_ts (s : State) : s.beginCycle.ts = s.ts := rfl

theorem DrainPhase.adcDone {s d : State} (h : DrainPhase s d) : d.adcDone = s.adcDone := by
  unfold State.adcDone; rw [h.iv]

theorem DrainPhase.sample {s d : State} (h : DrainPhase s d) : d.sample = s.sample := by
  unfold State.sample; rw [h.iv, h.same.2.2.2.2]

theorem DrainPhase.ts {s d : State} (h : DrainPhase s d) : d.ts = s.ts := by
  unfold State.ts; rw [h.iv]

/-- The operations of a cycle that is neither reset nor refused are a transmitter phase and then a sequencer phase. -/
theorem runOps_phases {s u : State} (hr : s.rst = false) (h3 : s.seq ≠ 3)
    (h : runOps (decode s.dv) s.beginCycle = .next u) :
    ∃ d, DrainPhase s.beginCycle d ∧ SequencerPhase d u := by
  rw [decode_dv] at h
  simp only [hr, h3, if_false, Bool.false_eq_true] at h
  have hsplit : ∃ d, DrainPhase s.beginCycle d ∧
      runOps (if s.convBusy = false then .convStart :: (if s.adcDone then [.ignoreDone] else [])
         else if s.adcDone = false then [.wait]
         else if s.seq = 0 then [.sampleOpto]
         else if s.seq = 1 then [.sampleVolt]
         else [.sampleCurr]) d = .next u := by
    by_cases hp : (s.txReady && s.txPending) = true
    · simp only [hp, if_true, List.cons_append, List.nil_append, runOps_cons, andThen_eq_next_iff] at h
      obtain ⟨d, hd, hu⟩ := h
      refine ⟨d, ?_, hu⟩
      rcases drainOne_next hd with ⟨hn, rfl⟩ | ⟨h8, hr', rfl⟩
      · exact .inr ⟨hn, rfl⟩
      · exact .inl ⟨h8, hr', rfl⟩
    · simp only [hp, if_false, List.nil_append, Bool.false_eq_true] at h
      refine ⟨s.beginCycle, .inr ⟨?_, rfl⟩, h⟩
      by_cases h8 : s.txIdx = 8
      · exact .inl h8
      · right
        simp only [State.txPending, Bool.and_eq_true, bne_iff_ne, ne_eq, h8, not_false_eq_true, and_true,
          Bool.not_eq_true] at hp
        exact hp
  obtain ⟨d, hd, hu⟩ := hsplit
  refine ⟨d, hd, ?_⟩
  obtain ⟨hseq, hbusy, _⟩ := hd.same
  have hdone : d.adcDone = s.adcDone := hd.adcDone
  simp only [State.beginCycle_seq] at hseq
  simp only [State.beginCycle_convBusy] at hbusy
  by_cases hb : s.convBusy = false
  · simp only [hb, if_true, runOps_cons, exec_convStart, andThen_next] at hu
    cases ha : s.adcDone <;> simp [ha] at hu <;> subst hu <;> exact .start (hbusy.trans hb)
  · have hb' : s.convBusy = true := by simpa using hb
    simp only [hb', if_false, Bool.true_eq_false] at hu
    by_cases ha : s.adcDone = false
    · simp [ha] at hu
      subst hu
      exact .wait (hbusy.trans hb') (hdone.trans ha)
    · have ha' : s.adcDone = true := by simpa using ha
      simp only [ha', if_false, Bool.true_eq_false] at hu
      by_cases h0 : s.seq = 0
      · simp only [h0, if_true, runOps_cons, andThen_eq_next_iff] at hu
        obtain ⟨v, hv, hu⟩ := hu
        cases hu
        obtain ⟨e, he, rfl⟩ := sampleOpto_next hv
        exact .opto (hbusy.trans hb') (hdone.trans ha') (hseq.trans h0) e he
      · by_cases h1 : s.seq = 1
        · simp only [h1] at hu
          cases hu
          exact .volt (hbusy.trans hb') (hdone.trans ha') (hseq.trans h1)
        · simp only [h0, h1, if_false, runOps_cons, andThen_eq_next_iff] at hu
          obtain ⟨v, hv, hu⟩ := hu
          cases hu
          obtain ⟨e, he, rfl⟩ := sampleCurr_next hv
          have h2 : s.seq = 2 := by bv_omega
          exact .curr (hbusy.trans hb') (hdone.trans ha') (hseq.trans h2) e he

/-- Everything a step can do: a reset cycle, or, from a state with nothing to refuse, a transmitter phase, a sequencer phase and the
clock edge. -/
theorem step_cases {s t : State} (h : step s = .next t) :
    (s.rst = true ∧ t = s.beginCycle.resetRegisters.endCycle) ∨
    (s.rst = false ∧ s.seq ≠ 3 ∧ s.broken = none ∧
      ∃ d u, DrainPhase s.beginCycle d ∧ SequencerPhase d u ∧ t = u.endCycle) := by
  obtain ⟨_, u, hu, rfl⟩ := step_eq_next_iff.1 h
  by_cases hr : s.rst = true
  · left
    rw [decode_dv] at hu
    simp [hr] at hu
    exact ⟨hr, by rw [← hu]⟩
  · have hr' : s.rst = false := by simpa using hr
    obtain ⟨h3, hb⟩ := step_next_legal h hr'
    obtain ⟨d, hd, hs⟩ := runOps_phases hr' h3 hu
    exact .inr ⟨hr', h3, hb, d, u, hd, hs, rfl⟩

/-! ## Sampling cycles -/

/-- A cycle takes an optical sample exactly when a conversion on OPTO is delivered (R79). -/
theorem takesOpto_iff (s : State) :
    s.takesOpto ↔ s.rst = false ∧ s.convBusy = true ∧ s.adcDone = true ∧ s.seq = 0 := by
  have h4 : s.seq = 0 ∨ s.seq = 1 ∨ s.seq = 2 ∨ s.seq = 3 := by bv_omega
  unfold State.takesOpto
  rw [decode_dv]
  rcases h4 with h | h | h | h <;> cases s.rst <;> cases s.convBusy <;> cases s.adcDone <;>
    cases (s.txReady && s.txPending) <;> simp [h]

/-- In a step that takes an optical sample, an edge is an entry into in-peak (R112). -/
theorem edgeNow_iff {s t : State} (h : step s = .next t) (ho : s.takesOpto) :
    s.edgeNow ↔ s.inPeak = false ∧ t.inPeak = true := by
  constructor
  · rintro ⟨_, hp, u, hu, hq⟩
    rw [h] at hu
    cases hu
    exact ⟨hp, hq⟩
  · exact fun hp => ⟨ho, hp.1, t, h, hp.2⟩

/-- A step that takes an optical sample: the state `d` after the transmitter phase, DC_UPDATE's `e`, and then EDGE_DETECT,
PERIOD_OBSERVE and the publish event. -/
theorem step_opto {s t : State} (h : step s = .next t) (ho : s.takesOpto) :
    ∃ d e, DrainPhase s.beginCycle d ∧ dcUpdate d = .next e ∧
      t = ({ (periodObserve (edgeDetect e)).takeEvent with convBusy := false } : State).endCycle := by
  obtain ⟨hr, hb, ha, h0⟩ := (takesOpto_iff s).1 ho
  rcases step_cases h with ⟨hr', _⟩ | ⟨_, _, _, d, u, hd, hu, rfl⟩
  · rw [hr] at hr'; cases hr'
  have hseq : d.seq = 0 := hd.same.1.trans h0
  have hbusy : d.convBusy = true := hd.same.2.1.trans hb
  have hdone : d.adcDone = true := hd.adcDone.trans ha
  cases hu with
  | start hb' => rw [hbusy] at hb'; cases hb'
  | wait _ hd' => rw [hdone] at hd'; cases hd'
  | opto _ _ _ e he => exact ⟨d, e, hd, he, rfl⟩
  | volt _ _ hs => rw [hseq] at hs; cases hs
  | curr _ _ hs => rw [hseq] at hs; cases hs

end Sys2Proof.Machine
end

