-- ==== Sys2Proof/Laws/PerInstr.lean ====
section
/-! SUPPORT. Facts about every operation as syntax, one lemma per constructor. -/

namespace Sys2Proof.Laws

/-- A row's match has no bit outside its mask, its encoded word satisfies its own row, and a sub-operation's row is its
parent's (R79, R80). -/
def RowEncoding.Statement (i : Instr) : Prop :=
  i.pattern &&& ~~~i.mask = 0 ∧ rowMatches (encode i) i = true ∧ encode i = encode i.parent ∧ i.mask = i.parent.mask

theorem RowEncoding.reset : RowEncoding.Statement .reset := by unfold RowEncoding.Statement; decide
theorem RowEncoding.reservedSeq : RowEncoding.Statement .reservedSeq := by unfold RowEncoding.Statement; decide
theorem RowEncoding.drainOne : RowEncoding.Statement .drainOne := by unfold RowEncoding.Statement; decide
theorem RowEncoding.convStart : RowEncoding.Statement .convStart := by unfold RowEncoding.Statement; decide
theorem RowEncoding.ignoreDone : RowEncoding.Statement .ignoreDone := by unfold RowEncoding.Statement; decide
theorem RowEncoding.wait : RowEncoding.Statement .wait := by unfold RowEncoding.Statement; decide
theorem RowEncoding.sampleOpto : RowEncoding.Statement .sampleOpto := by unfold RowEncoding.Statement; decide
theorem RowEncoding.sampleVolt : RowEncoding.Statement .sampleVolt := by unfold RowEncoding.Statement; decide
theorem RowEncoding.sampleCurr : RowEncoding.Statement .sampleCurr := by unfold RowEncoding.Statement; decide
theorem RowEncoding.dcUpdate : RowEncoding.Statement .dcUpdate := by unfold RowEncoding.Statement; decide
theorem RowEncoding.edgeDetect : RowEncoding.Statement .edgeDetect := by unfold RowEncoding.Statement; decide
theorem RowEncoding.periodObserve : RowEncoding.Statement .periodObserve := by unfold RowEncoding.Statement; decide
theorem RowEncoding.trySend : RowEncoding.Statement .trySend := by unfold RowEncoding.Statement; decide
theorem RowEncoding.frameEncode : RowEncoding.Statement .frameEncode := by unfold RowEncoding.Statement; decide

end Sys2Proof.Laws
end

