-- ==== Sys2Proof/Tests/Slice0.lean ====
section
/-! SUPPORT. The model's own tests. Expected values are the spec's: the vectors and worked examples of 95_test_vectors.md and of the
rules named; words are written out from R71, R78 and R79. -/

namespace Sys2Proof.Tests

open Sys2Proof Sys2Proof.Machine

/-! ## Helpers -/

/-- The next state of an outcome, if it is one. -/
def got : Result → Option State
  | .next s => some s
  | .fault _ => none
  | .refused _ => none

/-- The parameters of 95_test_vectors.md, with a header byte of our own (HEADER is OPEN). -/
def p10 : Params := ⟨10, 1024, 30, 50000, 0xA5, 0, false, 1⟩

/-- The same with a window of four samples. -/
def p4 : Params := ⟨10, 4, 30, 50000, 0xA5, 0, false, 1⟩

/-- An input vector of a cycle with a completed conversion. -/
def conv (d t : Half) : IV := encodeIv ⟨false, true, false, d, t⟩

/-- An input vector of a cycle with a completed conversion and a ready sink. -/
def convRdy (d t : Half) : IV := encodeIv ⟨false, true, true, d, t⟩

/-- An idle cycle's input vector. -/
def idle : IV := encodeIv ⟨false, false, false, 0, 0⟩

/-- An idle cycle's input vector with a ready sink. -/
def idleRdy : IV := encodeIv ⟨false, false, true, 0, 0⟩

/-- A reset cycle's input vector. -/
def rstIv : IV := encodeIv ⟨true, false, false, 0, 0⟩

/-- The reset state with given inputs to come. -/
def start (p : Params) (vs : List IV) : State := { State.resetOf p with inputs := vs }

/-- The start of a sampling cycle on channel `seq`. -/
def sampling (p : Params) (seq : BitVec 2) (vs : List IV) : State := { start p vs with seq := seq, convBusy := true }

/-! ## Well-formedness: an ill-formed term for each check -/

theorem smoke_adcW_low : ¬ Params.Wf { p10 with adcW := 7 } := by decide
theorem smoke_adcW_high : ¬ Params.Wf { p10 with adcW := 17 } := by decide
theorem smoke_win_zero : ¬ Params.Wf { p10 with win := 0 } := by decide
theorem smoke_highTh_zero : ¬ Params.Wf { p10 with highTh := 0 } := by decide
theorem smoke_timeout_zero : ¬ Params.Wf { p10 with timeout := 0 } := by decide
theorem smoke_timeout_high : ¬ Params.Wf { p10 with timeout := 65536 } := by decide
theorem smoke_tickHz_zero : ¬ Params.Wf { p10 with tickHz := 0 } := by decide
theorem smoke_params_ok : Params.Wf p10 := by decide
theorem smoke_form_data : Form.wf (.conv 65536 0 false) = false := by decide
theorem smoke_form_ts : Form.wf (.times 3 (.conv 0 65536 true)) = false := by decide
theorem smoke_form_iv : Form.wf (.raw (2 ^ 35)) = false := by decide
theorem smoke_line : Line.wf ⟨none, .raw (2 ^ 35), some "too wide"⟩ = false := by decide
theorem smoke_assemble_refuses : assemble [⟨none, .conv 0 65536 true, none⟩] = none := by decide
theorem smoke_subop : Instr.wf .dcUpdate = false := by decide
theorem smoke_two_phases : cycleWf [.convStart, .wait] = false := by decide
theorem smoke_reset_not_alone : cycleWf [.reset, .wait] = false := by decide
theorem smoke_ignore_alone : cycleWf [.ignoreDone] = false := by decide
theorem smoke_drain_alone : cycleWf [.drainOne] = false := by decide
theorem smoke_subop_cycle : cycleWf [.trySend] = false := by decide

/-! ## Decoding: words written out from R78 and R79 (`rst seq seq busy done ready pending`), SQ1 to SQ8 of the spec -/

theorem test_decode_reset : decode 0b1010101#7 = [.reset] := by decide
theorem test_decode_convStart : decode 0b0000000#7 = [.convStart] := by decide
theorem test_decode_ignoreDone : decode 0b0010100#7 = [.convStart, .ignoreDone] := by decide
theorem test_decode_wait : decode 0b0001011#7 = [.drainOne, .wait] := by decide
theorem test_decode_sampleOpto : decode 0b0001100#7 = [.sampleOpto] := by decide
theorem test_decode_sampleVolt : decode 0b0011100#7 = [.sampleVolt] := by decide
theorem test_decode_sampleCurr : decode 0b0101111#7 = [.drainOne, .sampleCurr] := by decide
theorem test_decode_reservedSeq : decode 0b0111111#7 = [.reservedSeq] := by decide
theorem test_decode_word_too_wide : decodeWord 128 = .error .notADecodeVector := by decide
theorem test_table_words : [0x40, 0x30, 0x03, 0x00, 0x04, 0x08, 0x0C, 0x1C, 0x2C].map (decodeTableWord 8) =
    [some .reset, some .reservedSeq, some .drainOne, some .convStart, some .ignoreDone, some .wait, some .sampleOpto,
     some .sampleVolt, some .sampleCurr] := by decide
theorem test_table_word_too_wide : decodeTableWord 8 0x80 = none := by decide

/-- R71's example: `0x3_0064_000A`. -/
theorem test_iv_example : decodeIv 0x30064000A#35 = ⟨false, true, true, 100, 10⟩ := by decide

/-- R72's bit positions: `pulse_out` 1, `adc_ch` 01, `tx_we` 1 with byte A5, a measured period of 336, `send_ev` 10. -/
theorem test_ov_positions : encodeOv ⟨true, false, false, 1, true, 0xA5, true, false, 336, 2⟩ = 0x201506969#34 := by decide

/-- P1 of the spec, cycle 6: `CONV 160, 30` is `0x2_00A0_001E`; R85's RESET. -/
theorem test_assemble_p1 : assemble [⟨none, .reset, none⟩, ⟨none, .conv 160 30 false, none⟩] =
    some [0x400000000#35, 0x200A0001E#35] := by decide

/-! ## DC_UPDATE (DC2, DC3, DC4, DC5; DC5's sample needs more than ten bits, so ADC_W is 12 there) -/

theorem test_dc2 : (got (exec .dcUpdate { start p10 [conv 101 0] with count := 1, sum := 100, hidx := 1, hist := [(0, 100)] })).map
    (fun t => (t.count, t.sum, t.hidx, t.hist.read 1, t.wires.dc)) = some (2, 201, 2, 101, 100) := by decide
theorem test_dc4 : (got (exec .dcUpdate { start p10 [conv 4 0] with count := 1023, sum := 4092, hidx := 1023 })).map
    (fun t => (t.count, t.sum, t.hidx, t.wires.dc)) = some (1024, 4096, 0, 4) := by decide
theorem test_dc5 : (got (exec .dcUpdate
      { start { p10 with adcW := 12 } [conv 1028 0] with count := 1024, sum := 4096, hidx := 0, hist := [(0, 4)] })).map
    (fun t => (t.count, t.sum, t.hidx, t.hist.read 0, t.wires.dc)) = some (1024, 5120, 1, 1028, 5) := by decide

/-! ## EDGE_DETECT (ED1, ED2, ED4, ED5, ED8) -/

/-- `in_peak`, `pulse_q` and `edge_fired` after EDGE_DETECT. -/
def edgeTest (peak pulse : Bool) (s : Half) (dc : Nat) : Option (Bool × Bool × Bool) :=
  (got (exec .edgeDetect { start p10 [conv s 0] with inPeak := peak, pulseQ := pulse, wires := { Wires.idle with dc := dc } })).map
    fun t => (t.inPeak, t.pulseQ, t.wires.edge)

theorem test_ed1 : edgeTest false false 141 110 = some (true, true, true) := by decide
theorem test_ed2 : edgeTest false false 140 110 = some (false, false, false) := by decide
theorem test_ed4 : edgeTest true true 107 100 = some (true, true, false) := by decide
theorem test_ed5 : edgeTest true true 106 100 = some (false, true, false) := by decide
theorem test_ed8 : edgeTest false true 110 100 = some (false, false, false) := by decide

/-! ## PERIOD_OBSERVE (PM2, PM3, PM4, PM5, PM6, PM8) -/

/-- The event, `prev_ts` and `timed_out` after PERIOD_OBSERVE. -/
def monitorTest (prev : Half) (late edge : Bool) (t : Half) : Option (PublishEvent × Half × Bool) :=
  (got (exec .periodObserve { start p10 [conv 0 t] with prevTs := prev, timedOut := late, wires := { Wires.idle with edge := edge } })).map
    fun s => (s.wires.event, s.prevTs, s.timedOut)

theorem test_pm2 : monitorTest 65300 false true 100 = some (.measured 336, 100, false) := by decide
theorem test_pm3 : monitorTest 0 false false 50000 = some (.none, 0, false) := by decide
theorem test_pm4 : monitorTest 0 false false 50001 = some (.timedOut, 50001, true) := by decide
theorem test_pm5 : monitorTest 50001 true false 40000 = some (.none, 50001, true) := by decide
theorem test_pm6 : monitorTest 50001 true true 60000 = some (.none, 60000, false) := by decide
theorem test_pm8 : monitorTest 0 false true 60000 = some (.measured 60000, 60000, false) := by decide

/-! ## The frame (FE1, FE3) -/

theorem test_fe1 : encodeFrame 0xA5 ⟨500, 300, 120⟩ = [0xA5, 0x9A, 0xF4, 0x01, 0x2C, 0x01, 0x78, 0x00] := by decide
theorem test_fe3 : encodeFrame 0xA5 ⟨0xFFFF, 0xFFFF, 0xFFFF⟩ = [0xA5, 0xFA, 0xFF, 0xFF, 0xFF, 0xFF, 0xFF, 0xFF] := by decide
theorem test_frameEncode : (got (exec .frameEncode { start p10 [conv 120 0] with pendingPeriod := 500, voltQ := 300 })).map
    (fun t => (t.wires.bytes, t.frame)) = some ([0xA5, 0x9A, 0xF4, 0x01, 0x2C, 0x01, 0x78, 0x00], []) := by decide

/-! ## TRY_SEND and DRAIN_ONE (TS1, TS3, DR1, DR2, DR3) -/

theorem test_ts1 : (got (exec .trySend { start p10 [conv 120 0] with pendingPeriod := 500, voltQ := 300 })).map
    (fun t => (t.txIdx, t.frame.readFrom 0 8, t.out.sendEv, t.failLatch)) =
    some (0, [0xA5, 0x9A, 0xF4, 0x01, 0x2C, 0x01, 0x78, 0x00], 1, false) := by decide
theorem test_ts3 : (got (exec .trySend { start p10 [conv 3 0] with txIdx := 3, failLatch := true, frame := [(3, 9)] })).map
    (fun t => (t.txIdx, t.frame, t.out.sendEv, t.failLatch)) = some (3, [(3, 9)], 2, true) := by decide
theorem test_dr1 : (got (exec .drainOne { start p10 [idleRdy] with txIdx := 0, frame := [(0, 0xA5)] })).map
    (fun t => (t.txIdx, t.out.txWe, t.out.txData)) = some (1, true, 0xA5) := by decide
theorem test_dr2 : (got (exec .drainOne { start p10 [idleRdy] with txIdx := 7, frame := [(7, 0x77)] })).map
    (fun t => (t.txIdx, t.out.txWe, t.out.txData)) = some (8, true, 0x77) := by decide

/-! ## The sequencer's operations and the cycle (the rules' worked examples, SQ9, P4 cycle 0) -/

theorem test_reset : (got (step { sampling p10 2 [rstIv] with failLatch := true, pulseQ := true })).map
    (fun t => (t.seq, t.convBusy, t.failLatch, t.txIdx, t.out.pulseOut)) = some (0, false, false, 8, true) := by decide
theorem test_convStart : (got (step { start p10 [idle] with seq := 1 })).map
    (fun t => (t.convBusy, t.out.adcStart, t.out.adcCh)) = some (true, true, 1) := by decide
theorem test_ignoreDone : (got (step (start p10 [conv 0x123 0]))).map
    (fun t => (t.convBusy, t.sum, t.count, t.voltQ)) = some (true, 0, 0, 0) := by decide
theorem test_wait_and_drain : (got (step { sampling p10 0 [idleRdy] with txIdx := 3 })).map
    (fun t => (t.txIdx, t.convBusy, t.seq)) = some (4, true, 0) := by decide
theorem test_sampleOpto : (got (exec .sampleOpto { sampling p10 0 [conv 200 40] with count := 3, sum := 300, hidx := 3 })).map
    (fun t => (t.sum, t.inPeak, t.pendingPeriod, t.seq, t.convBusy, t.out.pubPeriod)) = some (500, true, 40, 1, false, 40) := by
  decide
theorem test_sampleVolt : (got (exec .sampleVolt (sampling p10 1 [conv 0xFC2C 0]))).map
    (fun t => (t.voltQ, t.seq, t.convBusy)) = some (0x02C, 2, false) := by decide
theorem test_sampleCurr_overrun : (got (exec .sampleCurr { sampling p10 2 [conv 80 50020] with txIdx := 2 })).map
    (fun t => (t.failLatch, t.statusQ, t.txIdx, t.seq, t.out.sendEv)) = some (true, true, 2, 0, 2) := by decide
theorem test_drain_then_send : (got (step
      { sampling p10 2 [convRdy 0x45 0] with pendingPeriod := 336, voltQ := 0x123, txIdx := 7, frame := [(7, 0x77)] })).map
    (fun t => (t.out.txData, t.out.sendEv, t.frame.readFrom 0 8, t.txIdx)) =
    some (0x77, 1, [0xA5, 0xBA, 0x50, 0x01, 0x23, 0x01, 0x45, 0x00], 0) := by decide

/-! ## Every legal state of a small shape meets the invariant -/

/-- A state with empty memories and sum 0 meets the invariant when its registers are legal. -/
theorem inv_of_empty (s : State) (hh : s.hist = []) (hf : s.frame = []) (hw : s.wires = Wires.idle) (hp : s.params.Wf)
    (h : s.seq ≠ 3 ∧ s.count ≤ s.params.win ∧ s.hidx < s.params.win ∧ (s.count < s.params.win → s.hidx = s.count) ∧
      s.sum = 0 ∧ (s.inPeak = true → s.pulseQ = true) ∧ s.txIdx.toNat ≤ 8 ∧ s.voltQ.toNat < 2 ^ s.params.adcW ∧
      (s.seq = 1 ∨ s.seq = 2 → s.timedOut = true → s.pendingPeriod = 0) ∧ s.statusQ = s.failLatch) : s.Inv := by
  obtain ⟨h1, h2, h3, h4, h5, h6, h7, h8, h9, h10⟩ := h
  exact
    { params_wf := hp
      legal := ⟨h1, h2, h3, h4, by simp [hh, h5, Memory.read], h6, h7, h8, h9, h10⟩
      stored := ⟨by rw [hh]; rfl, fun i _ => by rw [hh]; rfl, fun i => by rw [hh]; simp [Memory.read], by rw [hf]; rfl,
        fun i _ => by rw [hf]; rfl⟩
      wires_idle := hw }

/-- The state `n` cycles on (the state itself where the run stops). -/
def runTo (n : Nat) (s : State) : State := (got (runN n s)).getD s

theorem runN_runTo {n : Nat} {s : State} (h : (got (runN n s)).isSome = true) : runN n s = .next (runTo n s) := by
  unfold runTo
  cases hr : runN n s with
  | next t => rfl
  | fault r => cases r
  | refused r => rw [hr] at h; cases h

/-- The next state (the state itself where the step stops). -/
def stepTo (s : State) : State := (got (step s)).getD s

theorem step_stepTo {s : State} (h : (got (step s)).isSome = true) : step s = .next (stepTo s) := by
  unfold stepTo
  cases hr : step s with
  | next t => rfl
  | fault r => cases r
  | refused r => rw [hr] at h; cases h

theorem step_inj {s t : State} (h : step s = .next t) : t = stepTo s := by
  unfold stepTo; rw [h]; rfl

theorem runN_inj {n : Nat} {s c : State} (h : runN n s = .next c) : c = runTo n s := by
  unfold runTo; rw [h]; rfl

/-- `resetFree`, as a computation. -/
def resetFreeB : Nat → State → Bool
  | 0, _ => true
  | n + 1, s => !s.rst && resetFreeB n (stepTo s)

theorem resetFree_of {n : Nat} {s : State} (h : resetFreeB n s = true) : resetFree n s := by
  induction n generalizing s with
  | zero => trivial
  | succ n ih =>
    simp only [resetFreeB, Bool.and_eq_true, Bool.not_eq_true'] at h
    refine ⟨h.1, fun t ht => ?_⟩
    exact step_inj ht ▸ ih h.2

theorem edgeNow_of {s : State} (ho : s.takesOpto) (hp : s.inPeak = false) (hs : (got (step s)).isSome = true)
    (ht : (stepTo s).inPeak = true) : s.edgeNow :=
  ⟨ho, hp, _, step_stepTo hs, ht⟩

theorem not_edgeNow_of {s : State} (ht : (stepTo s).inPeak = false) : ¬ s.edgeNow := by
  rintro ⟨_, _, t, hs, hp⟩
  rw [step_inj hs, ht] at hp
  cases hp

/-! ## Witnesses: a concrete state and operands that meet all hypotheses of a statement, by the statement's name. Statements
whose clauses have ranges get a witness at a boundary value of each. -/

/-- A waiting state: OPTO, a conversion in flight, nothing done. -/
def waiting : State := sampling p10 0 [idle]

theorem waiting_inv : waiting.Inv := inv_of_empty _ rfl rfl rfl (by decide) (by decide)

theorem wit_RowFiresExactlyWhenMaskMatches : Instr.wf .drainOne = true ∧ (0b0000011#7 &&& 0b1110000#7 ≠ 0b0110000#7) ∧
    Instr.wf .reservedSeq = true ∧ 0b0110011#7 &&& 0b1110000#7 = 0b0110000#7 := by decide
theorem wit_EncodedOperationFiresInNextCycle : 127 < 2 ^ 7 ∧ Instr.wf .convStart = true ∧
    ((encode .convStart ||| (0b0010111#7 &&& ~~~Instr.convStart.mask)) &&& 0b1110000#7 = 0b0110000#7 →
      Instr.convStart = .reservedSeq) := by decide
theorem wit_StimulusFormsAssemble : 65535 < 2 ^ 16 ∧ 0 < 2 ^ 16 ∧ 2 ^ 35 - 1 < 2 ^ 35 ∧ Form.wf (.times 2 (.raw 7)) = true ∧
    (⟨none, .raw (2 ^ 35), none⟩ : Line) ∈ [(⟨none, .raw (2 ^ 35), none⟩ : Line)] ∧ Form.wf (.raw (2 ^ 35)) = false := by
  decide
theorem wit_EnumerationCodesRoundTrip : (1 : Half) ≠ 0 := by decide
theorem wit_LowThresholdIsQuarterOfHigh : 1 ≤ ({ p10 with highTh := 1 } : Params).highTh := by decide
theorem wit_WaitAndIgnoreDoneWriteNothing : Instr.ignoreDone = .wait ∨ Instr.ignoreDone = .ignoreDone := by decide
theorem wit_ReservedSeqIsRefused : (sampling p10 3 [idle]).seq = 3 ∧ (sampling p10 3 [idle]).rst = false ∧
    (sampling p10 3 [rstIv]).seq = 3 ∧ (sampling p10 3 [rstIv]).rst = true := by decide

/-- The window's last free slot, and a full window. -/
def lastSlot : State := { sampling p4 0 [conv 8 0] with count := 3, hidx := 3 }
def fullWindow : State := { sampling p4 0 [conv 8 0] with count := 4, hidx := 3 }

theorem wit_DcUpdateFillsTheWindow : lastSlot.hist.wf = true ∧ lastSlot.count < lastSlot.params.win ∧
    lastSlot.hidx < lastSlot.params.win := by decide
theorem wit_DcUpdateEvictsTheOldest : fullWindow.hist.wf = true ∧ fullWindow.count = fullWindow.params.win ∧
    fullWindow.hidx < fullWindow.params.win ∧ (fullWindow.hist.read fullWindow.hidx).toNat ≤ fullWindow.sum := by decide
theorem wit_SampleOptoRunsThreeParts : fullWindow.count ≤ fullWindow.params.win ∧ fullWindow.hidx < fullWindow.params.win ∧
    (fullWindow.count = fullWindow.params.win → (fullWindow.hist.read fullWindow.hidx).toNat ≤ fullWindow.sum) := by decide

/-- EDGE_DETECT's four rows at their boundaries: 31, 30, 6 and 7 (test_ed1, test_ed2, test_ed5 and test_ed4 run them). -/
theorem wit_EdgeDetectFollowsStateTable :
    (31 : Int) > p10.highTh ∧ (30 : Int) ≤ p10.highTh ∧ (6 : Int) < p10.lowTh ∧ (7 : Int) ≥ p10.lowTh := by decide

/-- PERIOD_OBSERVE's ranges at their boundaries (test_pm2 to test_pm6 run the four rules). -/
theorem wit_PeriodObserveFollowsFourRules : (tsdiff 50001 0).toNat > p10.timeout ∧ (tsdiff 50000 0).toNat ≤ p10.timeout := by
  decide
theorem wit_SampleVoltStoresTheReading : (8 ≤ ({ p10 with adcW := 8 } : Params).adcW ∧ ({ p10 with adcW := 16 } : Params).adcW ≤ 16) ∧
    8 ≤ waiting.params.adcW ∧ waiting.params.adcW ≤ 16 := by decide
theorem wit_TrySendAcceptsWhenIdle : waiting.frame.wf = true ∧ waiting.txIdx = 8 := by decide
theorem wit_TrySendRejectsWhilePending : ({ waiting with txIdx := 7 } : State).txIdx.toNat < 8 ∧
    ({ waiting with txIdx := 0 } : State).txIdx.toNat < 8 := by decide
theorem wit_SampleCurrSendsAndReportsStatus : ({ waiting with txIdx := 8 } : State).txIdx.toNat ≤ 8 ∧
    ({ waiting with txIdx := 7 } : State).txIdx.toNat ≤ 8 := by decide

/-- The last byte pending and the sink ready. -/
def lastByte : State := { sampling p10 2 [convRdy 0x45 0] with txIdx := 7 }

theorem lastByte_inv : lastByte.Inv := inv_of_empty _ rfl rfl rfl (by decide) (by decide)

theorem wit_DrainOneSendsTheCurrentByte : lastByte.txIdx.toNat < 8 ∧ lastByte.txReady = true := by decide
theorem wit_ReservedIndicesAreRefused :
    (8 < ({ lastByte with txIdx := 9 } : State).txIdx.toNat ∧ ({ lastByte with txIdx := 9 } : State).txReady = true) ∧
    ({ fullWindow with count := 5 } : State).params.win < ({ fullWindow with count := 5 } : State).count ∧
    (({ fullWindow with hidx := 4 } : State).count ≤ ({ fullWindow with hidx := 4 } : State).params.win ∧
      ({ fullWindow with hidx := 4 } : State).params.win ≤ ({ fullWindow with hidx := 4 } : State).hidx) := by decide

/-- One, two and three operations in one cycle, and a reset cycle. -/
theorem wit_StepRunsDecodedOperations : waiting.Inv ∧ decode waiting.dv = [.wait] ∧
    (lastByte.Inv ∧ decode lastByte.dv = [.drainOne, .sampleCurr]) ∧
    decode ({ start p10 [convRdy 0 0] with txIdx := 0 } : State).dv = [.drainOne, .convStart, .ignoreDone] ∧
    (sampling p10 3 [rstIv]).rst = true :=
  ⟨waiting_inv, by decide, ⟨lastByte_inv, by decide⟩, by decide, by decide⟩
theorem wit_StepRunsDecodedOperations_three : ({ start p10 [convRdy 0 0] with txIdx := 0 } : State).Inv :=
  inv_of_empty _ rfl rfl rfl (by decide) (by decide)
theorem wit_CycleOrderIsDrainThenSequencer : lastByte.Legal ∧ lastByte.rst = false := ⟨lastByte_inv.legal, by decide⟩
theorem wit_ResetCycleOverridesEverything : (sampling p10 3 [rstIv]).rst = true := by decide
theorem wit_EveryLegalStateSteps : waiting.Inv := waiting_inv
/-- A VOLT state whose last publish was a TimedOut, with a period of 5 pending all the same (R38 item 8). -/
def stalePending : State := { sampling p10 1 [idle] with timedOut := true, pendingPeriod := 5 }

/-- A history entry of 11 bits where ADC_W is 10 (R20). -/
def wideEntry : State := { waiting with hist := [(3, 1024)] }

theorem wit_UnreachableStatesAreRefused : (stalePending.rst = false ∧ ¬ (stalePending.Legal ∧ stalePending.Stored)) ∧
    wideEntry.rst = false ∧ ¬ (wideEntry.Legal ∧ wideEntry.Stored) :=
  ⟨⟨by decide, fun h => absurd (h.1.pending_last (by decide) (by decide)) (by decide)⟩, by decide,
    fun h => absurd (h.2.hist_fits 3) (by decide)⟩
theorem test_stalePending_refused : step stalePending = .refused .pendingMismatch := rfl
theorem test_wideEntry_refused : step wideEntry = .refused .histRange := rfl
theorem wit_EveryStepKeepsTheInvariant : lastByte.Inv ∧ step lastByte = .next (stepTo lastByte) :=
  ⟨lastByte_inv, step_stepTo (by decide)⟩
theorem wit_ResetStateMeetsTheInvariant : p10.Wf ∧ ({ p10 with adcW := 8, win := 1, timeout := 65535 } : Params).Wf := by decide
theorem wit_StepUsesOneInputVector :
    step { waiting with inputs := idleRdy :: [idle] } = .next (stepTo { waiting with inputs := idleRdy :: [idle] }) :=
  step_stepTo (by decide)
theorem wit_MissingInputIsFree : ({ waiting with inputs := [] } : State).inputs = [] := by decide
theorem wit_OutputPortsOfACycle : (lastByte.Inv ∧ step lastByte = .next (stepTo lastByte) ∧ lastByte.rst = false) ∧
    (start p10 [rstIv]).Inv ∧ step (start p10 [rstIv]) = .next (stepTo (start p10 [rstIv])) ∧ (start p10 [rstIv]).rst = true :=
  ⟨⟨lastByte_inv, step_stepTo (by decide), by decide⟩, inv_of_empty _ rfl rfl rfl (by decide) (by decide),
    step_stepTo (by decide), by decide⟩
theorem wit_ReservedCodesAreNeverDriven : step lastByte = .next (stepTo lastByte) := step_stepTo (by decide)
theorem wit_EstimateIsMeanOfLastWindow : 1 ≤ (start p4 []).params.win ∧
    ({ start p4 [] with hist := [(2, 9)] } : State).hist.wf = true ∧ (start p4 []).count = 0 ∧ (start p4 []).hidx = 0 ∧
    (start p4 []).sum = 0 := by decide
theorem wit_SumAndEstimateFitTheirWidths : fullWindow.Inv := inv_of_empty _ rfl rfl rfl (by decide) (by decide)
theorem wit_OnlyOpticalSamplesReachTheFrontEnd : (lastByte.Inv ∧ step lastByte = .next (stepTo lastByte) ∧
      lastByte.rst = false ∧ ¬ lastByte.takesOpto) ∧
    fullWindow.Inv ∧ step fullWindow = .next (stepTo fullWindow) ∧ fullWindow.rst = false ∧ fullWindow.takesOpto :=
  ⟨⟨lastByte_inv, step_stepTo (by decide), by decide, by unfold State.takesOpto; decide⟩,
    wit_SumAndEstimateFitTheirWidths, step_stepTo (by decide), by decide, by unfold State.takesOpto; decide⟩

/-- A slot not yet stored and an idle frame buffer hold other values. -/
theorem wit_UnwrittenMemoryIsUnobservable : waiting.Inv ∧ State.Inv { waiting with hist := [(5, 7)], frame := [(3, 4)] } ∧
    (∀ i, i < waiting.count → Memory.read (w := 16) [(5, 7)] i = waiting.hist.read i) ∧
    (waiting.txIdx ≠ 8 → ∀ i, Memory.read (w := 8) [(3, 4)] i = waiting.frame.read i) ∧
    step waiting = .next (stepTo waiting) := by
  refine ⟨waiting_inv, ?_, fun i hi => absurd hi (Nat.not_lt_zero i), fun h => absurd rfl h, step_stepTo (by decide)⟩
  refine ⟨waiting_inv.params_wf, ⟨by decide, by decide, by decide, fun _ => rfl, rfl, by decide, by decide, by decide,
    by decide, rfl⟩, ⟨by decide, fun i hi => ?_, fun i => ?_, by decide, fun i hi => ?_⟩, rfl⟩
  · have h5 : i ≠ 5 := by have : 1024 ≤ i := hi; omega
    simp [Memory.read, h5]
  · by_cases h5 : i = 5
    · subst h5; decide
    · simp [Memory.read, h5]
  · have h3 : i ≠ 3 := by omega
    simp [Memory.read, h3]

/-- An entry sample (pulse rises), after a start with `PM_TO_RESET = 1`. -/
def entering : State := { sampling { p4 with pmToReset := true } 0 [conv 100 2] with count := 1, hidx := 1 }

/-- From reset, samples 0 and 100: the second is the first edge. -/
def firstEdge (p : Params) : State := start p [idle, conv 0 1, idle, conv 100 2]

/-- `PM_TO_RESET = 0`: three quiet cycles after reset, then the first edge. -/
theorem wit_FirstEdgeAfterResetDependsOnParameters : (firstEdge p4).Inv ∧ (firstEdge p4).prevTs = (firstEdge p4).params.pmPrevReset ∧
    (firstEdge p4).timedOut = (firstEdge p4).params.pmToReset ∧ resetFree 3 (firstEdge p4) ∧
    runN 3 (firstEdge p4) = .next (runTo 3 (firstEdge p4)) ∧
    (∀ k c d, k < 3 → runN k (firstEdge p4) = .next c → step c = .next d → ¬ c.edgeNow ∧ d.out.pubValid = false) ∧
    (runTo 3 (firstEdge p4)).edgeNow ∧ (firstEdge p4).params.pmToReset = false := by
  refine ⟨inv_of_empty _ rfl rfl rfl (by decide) (by decide), rfl, rfl, resetFree_of (by decide), runN_runTo (by decide),
    fun k c d hk hc hd => ?_, edgeNow_of (by unfold State.takesOpto; decide) (by decide) (by decide) (by decide), rfl⟩
  rw [step_inj hd, runN_inj hc]
  rcases k with _ | _ | _ | k
  · exact ⟨not_edgeNow_of (by decide), by decide⟩
  · exact ⟨not_edgeNow_of (by decide), by decide⟩
  · exact ⟨not_edgeNow_of (by decide), by decide⟩
  · omega

/-- `PM_TO_RESET = 1`: the first edge in the first cycle of the run. -/
theorem wit_FirstEdgeAfterResetDependsOnParameters_late : entering.Inv ∧ entering.prevTs = entering.params.pmPrevReset ∧
    entering.timedOut = entering.params.pmToReset ∧ resetFree 0 entering ∧ runN 0 entering = .next entering ∧
    entering.edgeNow ∧ entering.params.pmToReset = true :=
  ⟨inv_of_empty _ rfl rfl rfl (by decide) (by decide), rfl, rfl, trivial, rfl,
    edgeNow_of (by unfold State.takesOpto; decide) (by decide) (by decide) (by decide), rfl⟩

/-- Samples 0, 100, 0, 100 in a silent state: an entry, an exit and a second entry. -/
def chatter : State := { start p4 [idle, conv 0 1, idle, conv 100 2, idle, conv 0 3, idle, conv 100 4] with timedOut := true }

theorem wit_NoChatterBetweenEdges : 3 < 7 ∧ chatter.Inv ∧ runN 3 chatter = .next (runTo 3 chatter) ∧
    runN 7 chatter = .next (runTo 7 chatter) ∧ (runTo 3 chatter).edgeNow ∧ (runTo 7 chatter).edgeNow ∧
    resetFree (7 - 3) (runTo 3 chatter) :=
  ⟨by decide, inv_of_empty _ rfl rfl rfl (by decide) (by decide), runN_runTo (by decide), runN_runTo (by decide),
    edgeNow_of (by unfold State.takesOpto; decide) (by decide) (by decide) (by decide),
    edgeNow_of (by unfold State.takesOpto; decide) (by decide) (by decide) (by decide), resetFree_of (by decide)⟩

/-- The sample after an exit (pulse falls). -/
def afterExit : State := { sampling p4 0 [conv 0 2] with pulseQ := true }

theorem wit_PulseRisesAtEntryAndFallsAfterExit :
    (entering.Inv ∧ step entering = .next (stepTo entering) ∧ entering.rst = false ∧ entering.pulseQ = false ∧
      (stepTo entering).pulseQ = true) ∧
    afterExit.Inv ∧ step afterExit = .next (stepTo afterExit) ∧ afterExit.rst = false ∧ afterExit.pulseQ = true ∧
      (stepTo afterExit).pulseQ = false :=
  ⟨⟨inv_of_empty _ rfl rfl rfl (by decide) (by decide), step_stepTo (by decide), by decide, by decide, by decide⟩,
    inv_of_empty _ rfl rfl rfl (by decide) (by decide), step_stepTo (by decide), by decide, by decide, by decide⟩

/-- A sample at 50000 silent ticks, then one at 50001, then two more cycles. -/
def silence : State := sampling p4 0 [conv 0 50000, idle, conv 0 50001, idle, idle]

theorem wit_OneTimeoutPerSilence : silence.Inv ∧ silence.timedOut = false ∧ resetFree (2 + 1) silence ∧
    runN 2 silence = .next (runTo 2 silence) ∧ step (runTo 2 silence) = .next (stepTo (runTo 2 silence)) ∧
    (∀ k c, k ≤ 2 → runN k silence = .next c → ¬ c.edgeNow) ∧
    (∀ k c, k < 2 → runN k silence = .next c → c.takesOpto →
      (tsdiff c.ts silence.prevTs).toNat ≤ silence.params.timeout) ∧
    (runTo 2 silence).takesOpto ∧ (tsdiff (runTo 2 silence).ts silence.prevTs).toNat > silence.params.timeout := by
  refine ⟨inv_of_empty _ rfl rfl rfl (by decide) (by decide), by decide, resetFree_of (by decide), runN_runTo (by decide),
    step_stepTo (by decide), fun k c hk hc => ?_, fun k c hk hc => ?_, by unfold State.takesOpto; decide, by decide⟩
  · rw [runN_inj hc]
    rcases k with _ | _ | _ | k
    · exact not_edgeNow_of (by decide)
    · exact not_edgeNow_of (by decide)
    · exact not_edgeNow_of (by decide)
    · omega
  · rw [runN_inj hc]
    rcases k with _ | _ | k
    · exact fun _ => by decide
    · exact fun _ => by decide
    · omega

/-- The inner clause of the timeout law: two more cycles of silence after the timeout. -/
theorem wit_OneTimeoutPerSilence_after : resetFree (1 + 1) (stepTo (runTo 2 silence)) ∧
    runN 1 (stepTo (runTo 2 silence)) = .next (runTo 1 (stepTo (runTo 2 silence))) ∧
    step (runTo 1 (stepTo (runTo 2 silence))) = .next (stepTo (runTo 1 (stepTo (runTo 2 silence)))) ∧
    ∀ k c, k < 1 → runN k (stepTo (runTo 2 silence)) = .next c → ¬ c.edgeNow := by
  refine ⟨resetFree_of (by decide), runN_runTo (by decide), step_stepTo (by decide), fun k c hk hc => ?_⟩
  rw [runN_inj hc]
  rcases k with _ | k
  · exact not_edgeNow_of (by decide)
  · omega

/-- A publishing optical sample: the first edge, not after a silence. -/
def publishing : State :=
  { sampling p4 0 [conv 100 30, idle, conv 30 31, idle, conv 12 32] with count := 1, hidx := 1 }

theorem publishing_inv : publishing.Inv := inv_of_empty _ rfl rfl rfl (by decide) (by decide)

theorem wit_PendingPeriodIsTheLastPublish : (publishing.Inv ∧ step publishing = .next (stepTo publishing) ∧
      publishing.rst = false ∧ (stepTo publishing).out.pubValid = true) ∧
    waiting.Inv ∧ step waiting = .next (stepTo waiting) ∧ waiting.rst = false ∧ (stepTo waiting).out.pubValid = false :=
  ⟨⟨publishing_inv, step_stepTo (by decide), by decide, by decide⟩, waiting_inv, step_stepTo (by decide), by decide, by decide⟩

/-- The last byte goes out as a new frame is accepted, then two more bytes drain. -/
def twoFrames : State := { lastByte with inputs := [convRdy 0x45 0, idleRdy, idleRdy] }

theorem wit_SinkReceivesWholeFramesInOrder : twoFrames.Inv ∧ resetFree 3 twoFrames ∧
    runN 3 twoFrames = .next (runTo 3 twoFrames) ∧ sentBytes 3 twoFrames = [0, 0xA5, 0x45] :=
  ⟨inv_of_empty _ rfl rfl rfl (by decide) (by decide), resetFree_of (by decide), runN_runTo (by decide), by decide⟩

/-- TRY_SEND while idle, a step that overruns, and a run after it. -/
def overrunning : State := { sampling p10 2 [conv 80 0, idle, idle] with txIdx := 2 }

theorem wit_FailureLatchIsSticky : waiting.txIdx = 8 ∧
    (step overrunning = .next (stepTo overrunning) ∧ overrunning.failLatch = false ∧
      (stepTo overrunning).failLatch = true) ∧
    (stepTo overrunning).failLatch = true ∧ resetFree 2 (stepTo overrunning) ∧
    runN 2 (stepTo overrunning) = .next (runTo 2 (stepTo overrunning)) :=
  ⟨by decide, ⟨step_stepTo (by decide), by decide, by decide⟩, by decide, resetFree_of (by decide), runN_runTo (by decide)⟩
theorem wit_TransmitterDrainsInEveryCycle : (lastByte.Inv ∧ step lastByte = .next (stepTo lastByte) ∧
      lastByte.rst = false ∧ lastByte.txIdx ≠ 8 ∧ lastByte.txReady = true) ∧
    waiting.Inv ∧ step waiting = .next (stepTo waiting) ∧ waiting.rst = false ∧ waiting.txReady = false :=
  ⟨⟨lastByte_inv, step_stepTo (by decide), by decide, by decide, by decide⟩, waiting_inv, step_stepTo (by decide),
    by decide, by decide⟩
theorem wit_DrainOfLastByteFreesTheTransmitter : lastByte.Inv ∧ lastByte.rst = false ∧ lastByte.seq = 2 ∧
    lastByte.convBusy = true ∧ lastByte.adcDone = true ∧ lastByte.txReady = true ∧ lastByte.txIdx = 7 :=
  ⟨lastByte_inv, by decide, by decide, by decide, by decide, by decide, by decide⟩

/-- A frame accepted, then the shortest way to the next SAMPLE_CURR, with the sink ready throughout. -/
def rushing : State :=
  { sampling p4 2 [convRdy 1 0, idleRdy, convRdy 100 9, idleRdy, convRdy 2 0, idleRdy, convRdy 3 0]
    with count := 1, hidx := 1 }

theorem wit_SendTooSoonOverruns : rushing.Inv ∧ step rushing = .next (stepTo rushing) ∧ (stepTo rushing).out.sendEv = 1 ∧
    5 + 1 < 8 ∧ resetFree (5 + 1) (stepTo rushing) ∧ runN 5 (stepTo rushing) = .next (runTo 5 (stepTo rushing)) ∧
    Instr.sampleCurr ∈ decode (runTo 5 (stepTo rushing)).dv :=
  ⟨inv_of_empty _ rfl rfl rfl (by decide) (by decide), step_stepTo (by decide), by decide, by decide,
    resetFree_of (by decide), runN_runTo (by decide), by decide⟩
theorem wit_StatusOutputLagsByOneCycle : overrunning.Inv ∧ step overrunning = .next (stepTo overrunning) :=
  ⟨inv_of_empty _ rfl rfl rfl (by decide) (by decide), step_stepTo (by decide)⟩

/-- Each of SAMPLE_OPTO, SAMPLE_VOLT, SAMPLE_CURR, none of them, and RESET. -/
theorem wit_SequencerTransitions : (publishing.Inv ∧ step publishing = .next (stepTo publishing) ∧ publishing.rst = false ∧
      Instr.sampleOpto ∈ decode publishing.dv) ∧
    ((sampling p10 1 [conv 0 0]).Inv ∧ step (sampling p10 1 [conv 0 0]) = .next (stepTo (sampling p10 1 [conv 0 0])) ∧
      (sampling p10 1 [conv 0 0]).rst = false ∧ Instr.sampleVolt ∈ decode (sampling p10 1 [conv 0 0]).dv) ∧
    (lastByte.Inv ∧ step lastByte = .next (stepTo lastByte) ∧ lastByte.rst = false ∧
      Instr.sampleCurr ∈ decode lastByte.dv) ∧
    (waiting.Inv ∧ step waiting = .next (stepTo waiting) ∧ waiting.rst = false ∧ decode waiting.dv = [.wait]) ∧
    (start p10 [rstIv]).Inv ∧ step (start p10 [rstIv]) = .next (stepTo (start p10 [rstIv])) ∧
      (start p10 [rstIv]).rst = true :=
  ⟨⟨publishing_inv, step_stepTo (by decide), by decide, by decide⟩,
    ⟨inv_of_empty _ rfl rfl rfl (by decide) (by decide), step_stepTo (by decide), by decide, by decide⟩,
    ⟨lastByte_inv, step_stepTo (by decide), by decide, by decide⟩,
    ⟨waiting_inv, step_stepTo (by decide), by decide, by decide⟩,
    inv_of_empty _ rfl rfl rfl (by decide) (by decide), step_stepTo (by decide), by decide⟩
theorem wit_PublishToSendTakesFourCycles : publishing.Inv ∧ step publishing = .next (stepTo publishing) ∧
    (stepTo publishing).out.pubValid = true ∧ runN 3 (stepTo publishing) = .next (runTo 3 (stepTo publishing)) ∧
    Instr.sampleCurr ∈ decode (runTo 3 (stepTo publishing)).dv :=
  ⟨publishing_inv, step_stepTo (by decide), by decide, runN_runTo (by decide), by decide⟩
theorem wit_UnrequestedCompletionIsDiscarded : (start p10 []).Inv ∧ (start p10 []).convBusy = false ∧
    (⟨false, true, false, 0x123, 0⟩ : Inputs).rst = false :=
  ⟨inv_of_empty _ rfl rfl rfl (by decide) (by decide), by decide, by decide⟩
theorem wit_UnusedDataBitsAreIgnored : (0xFC2C#16).toNat % 2 ^ waiting.params.adcW = (0x002C#16).toNat % 2 ^ waiting.params.adcW := by
  decide
theorem wit_InputsAreReadOnlyWhenSampling :
    ¬ State.takesOpto { lastByte with inputs := [encodeIv ⟨false, true, false, 5, 6⟩] } ∧
    ¬ ((⟨false, false, true, 5, 6⟩ : Inputs).rst = false ∧ waiting.convBusy = true ∧
      (⟨false, false, true, 5, 6⟩ : Inputs).adcDone = true) :=
  ⟨by unfold State.takesOpto; decide, by decide⟩

end Sys2Proof.Tests
end

section
/-! SUPPORT. The parameters and primitives of 00_scope.md, and the three statements about them. -/

namespace Sys2Proof

/-- Adding a list of bytes to a start value adds their values modulo 256; the start value is what the induction generalises. -/
theorem foldl_add_toNat (bs : List Byte) (b : Byte) :
    (bs.foldl (· + ·) b).toNat = (b.toNat + (bs.map BitVec.toNat).sum) % 256 := by
  induction bs generalizing b with
  | nil => simp [Nat.mod_eq_of_lt b.isLt]
  | cons c bs ih =>
    simp only [List.foldl_cons, ih, BitVec.toNat_add, List.map_cons, List.sum_cons]
    omega

theorem sum8_toNat (bs : List Byte) : (sum8 bs).toNat = (bs.map BitVec.toNat).sum % 256 := by
  simp [sum8, foldl_add_toNat]

theorem Params.lowTh_lt_highTh {p : Params} (h : 1 ≤ p.highTh) : p.lowTh < p.highTh :=
  Nat.div_lt_self h (by decide)

namespace Machine

/-- Subtraction of timestamps is that of the integers modulo `2 ^ 16` (R10). -/
theorem tsdiff_toNat (a b : Half) : ((tsdiff a b).toNat : Int) = ((a.toNat : Int) - (b.toNat : Int)) % 2 ^ 16 := by
  have ha := a.isLt
  have hb := b.isLt
  rw [tsdiff, BitVec.toNat_sub]
  omega

end Machine

end Sys2Proof

namespace Sys2Proof.Proofs

/-- Settles O12, by the fold's lemma for every start value. -/
theorem byteSumWraps : Obligations.ByteSumWraps := sum8_toNat

/-- Settles O10. -/
theorem lowThresholdIsQuarterOfHigh : Obligations.LowThresholdIsQuarterOfHigh :=
  ⟨fun _ => ⟨rfl, Params.lowTh_lt_highTh⟩, rfl⟩

/-- Settles O11. -/
theorem timestampDifferenceWraps : Obligations.TimestampDifferenceWraps :=
  ⟨Machine.tsdiff_toNat, by decide⟩

end Sys2Proof.Proofs
end

section
/-! SUPPORT. A cycle that is not refused is its operations in order between the start of the cycle and the clock edge. -/

namespace Sys2Proof.Machine

theorem andThen_assoc (o : Result) (f g : State → Result) :
    andThen (andThen o f) g = andThen o fun s => andThen (f s) g := by
  cases o <;> rfl

/-- A state that meets the invariant has nothing that a cycle refuses (R38). -/
theorem State.Inv.broken_eq_none {s : State} (h : s.Inv) : s.broken = none := by
  obtain ⟨hl, hm⟩ := h.legal, h.stored
  rw [broken_eq_none_iff]
  refine ⟨hl.count_le, hl.hidx_lt, hl.txIdx_le, hl.fill_slot, ?_, ?_, ?_, hl.pulse_high, hl.volt_fits, hl.pending_last,
    hl.status_latch⟩
  · exact (Memory.fits_iff (Nat.two_pow_pos _)).2 ⟨hm.hist_wf, hm.hist_range, hm.hist_fits⟩
  · exact (Memory.fits_iff (Nat.two_pow_pos _)).2 ⟨hm.frame_wf, hm.frame_range, fun i => (s.frame.read i).isLt⟩
  · rw [Memory.sumBelow_eq_sum hm.hist_wf]
    exact hl.sum_stored

/-- No cycle is refused before its operations run where the invariant holds or `rst = 1` overrides everything (R185). -/
theorem refusedCycle_eq_none {s : State} (h : s.Inv ∨ s.rst = true) : s.refusedCycle = none := by
  rcases h with hi | hr
  · simp [State.refusedCycle, hi.broken_eq_none]
  · simp [State.refusedCycle, hr]

theorem step_eq_runOps {s : State} (h : s.refusedCycle = none) :
    step s = andThen (runOps (decode s.dv) s.beginCycle) fun t => .next t.endCycle := by
  simp [step, runCycle, h]

/-- The transmitter phase gives at most one operation and the sequencer phase one or two (R150). -/
theorem decode_dv_length (s : State) : 1 ≤ (decode s.dv).length ∧ (decode s.dv).length ≤ 3 := by
  rw [decode_dv]
  split_ifs <;> simp

end Sys2Proof.Machine

namespace Sys2Proof.Proofs

open Sys2Proof.Machine

/-- Settles O31: `runOps` on a list of one, two or three, the clock edge moved inside. -/
theorem stepRunsDecodedOperations : Obligations.StepRunsDecodedOperations := by
  intro s h
  have hstep := step_eq_runOps (refusedCycle_eq_none h)
  refine ⟨fun i hd => ?_, fun i j hd => ?_, fun i j k hd => ?_, decode_dv_length s⟩ <;>
    simp [hstep, hd, andThen_assoc]

end Sys2Proof.Proofs
end

section
/-! SUPPORT. Operations leave the parameters and the environment's side of the model alone, and see of the inputs only the vector of
the current cycle (log 3). -/

namespace Sys2Proof.Machine

/-! ## What no operation writes -/

theorem dcUpdate_sameModel {s t : State} (h : dcUpdate s = .next t) : SameModel s t := by
  obtain ⟨_, ⟨_, rfl⟩ | ⟨_, _, rfl⟩⟩ := dcUpdate_next h <;> simp [SameModel]

theorem trySend_sameModel {s t : State} (h : trySend s = .next t) : SameModel s t := by
  obtain ⟨_, rfl⟩ | ⟨_, rfl⟩ := trySend_next h <;> simp [SameModel]

theorem drainOne_sameModel {s t : State} (h : drainOne s = .next t) : SameModel s t := by
  obtain ⟨_, rfl⟩ | ⟨_, _, rfl⟩ := drainOne_next h <;> simp [SameModel]

/-- No operation writes a parameter, an input or the cycle number (R7). -/
theorem exec_sameModel {i : Instr} {s t : State} (h : exec i s = .next t) : SameModel s t := by
  cases i with
  | reset | convStart | ignoreDone | wait | sampleVolt | edgeDetect | periodObserve | frameEncode =>
    cases h; exact ⟨rfl, rfl, rfl⟩
  | reservedSeq => cases h
  | drainOne => exact drainOne_sameModel h
  | sampleOpto =>
    obtain ⟨s1, h1, rfl⟩ := sampleOpto_next h
    simpa [SameModel] using dcUpdate_sameModel h1
  | sampleCurr =>
    obtain ⟨s1, h1, rfl⟩ := sampleCurr_next h
    simpa [SameModel] using trySend_sameModel h1
  | dcUpdate => exact dcUpdate_sameModel h
  | trySend => exact trySend_sameModel h

theorem SameModel.trans {s t u : State} (hst : SameModel s t) (htu : SameModel t u) : SameModel s u :=
  ⟨htu.1.trans hst.1, htu.2.1.trans hst.2.1, htu.2.2.trans hst.2.2⟩

theorem runOps_sameModel {ops : List Instr} {s t : State} (h : runOps ops s = .next t) : SameModel s t := by
  induction ops generalizing s with
  | nil => cases h; exact ⟨rfl, rfl, rfl⟩
  | cons i is ih =>
    obtain ⟨u, hu, ht⟩ := andThen_eq_next_iff.1 h
    exact (exec_sameModel hu).trans (ih ht)

/-- A step keeps the parameters, uses up one input vector and counts one cycle (R7, R85). -/
theorem step_model {s t : State} (h : step s = .next t) :
    t.params = s.params ∧ t.inputs = s.inputs.tail ∧ t.cycle = s.cycle + 1 := by
  obtain ⟨_, u, hu, rfl⟩ := step_eq_next_iff.1 h
  obtain ⟨hp, hi, hc⟩ := runOps_sameModel hu
  simp_all

/-! ## Other inputs with the same current vector -/

/-- `s` with the list `us` of inputs to come. -/
def State.withInputs (s : State) (us : List IV) : State := { s with inputs := us }

theorem State.withInputs_of_inputs_eq {s : State} {us : List IV} (h : s.inputs = us) : s.withInputs us = s := by
  subst h; rfl

/-- The publish event is handed on by the wires, so taking it sees no input at all. -/
theorem takeEvent_withInputs (s : State) (us : List IV) : (s.withInputs us).takeEvent = s.takeEvent.withInputs us := by
  have hw : (s.withInputs us).wires = s.wires := rfl
  unfold State.takeEvent
  rw [hw]
  cases s.wires.event <;> rfl

/-- The list `us` gives the state the input vector that its own inputs give it in this cycle. -/
def State.SameIv (s : State) (us : List IV) : Prop := (s.withInputs us).iv = s.iv

theorem State.SameIv.of_sameModel {s t : State} {us : List IV} (h : s.SameIv us) (ht : SameModel s t) : t.SameIv us := by
  obtain ⟨_, hi, hc⟩ := ht
  have hus : (t.withInputs us).iv = (s.withInputs us).iv := State.iv_congr rfl hc
  exact hus.trans (h.trans (State.iv_congr hi hc).symm)

section
variable {s : State} {us : List IV} (h : s.SameIv us)
include h

theorem rst_withInputs : (s.withInputs us).rst = s.rst := congrArg ivRst h
theorem adcDone_withInputs : (s.withInputs us).adcDone = s.adcDone := congrArg ivAdcDone h
theorem txReady_withInputs : (s.withInputs us).txReady = s.txReady := congrArg ivTxReady h
theorem ts_withInputs : (s.withInputs us).ts = s.ts := congrArg ivTs h
theorem sample_withInputs : (s.withInputs us).sample = s.sample := congrArg (fun v => lowBits s.params.adcW (ivAdcData v)) h

theorem acSignal_withInputs : (s.withInputs us).acSignal = s.acSignal :=
  congrArg (fun x : Half => (x.toNat : Int) - (s.wires.dc : Int)) (sample_withInputs h)

theorem elapsed_withInputs : (s.withInputs us).elapsed = s.elapsed :=
  congrArg (tsdiff · s.prevTs) (ts_withInputs h)

theorem dv_withInputs : (s.withInputs us).dv = s.dv := by
  simp only [State.dv, rst_withInputs h, adcDone_withInputs h, txReady_withInputs h]
  rfl

theorem refusedCycle_withInputs : (s.withInputs us).refusedCycle = s.refusedCycle := by
  simp only [State.refusedCycle, rst_withInputs h]
  rfl

theorem dcUpdate_withInputs : dcUpdate (s.withInputs us) = andThen (dcUpdate s) fun t => .next (t.withInputs us) := by
  have hb : (s.withInputs us).trackerBroken = s.trackerBroken := rfl
  have hf : (s.withInputs us).filling = s.filling := rfl
  simp only [dcUpdate, hb, hf, sample_withInputs h]
  cases s.trackerBroken with
  | some r => rfl
  | none => cases s.filling <;> rfl

theorem edgeDetect_withInputs : edgeDetect (s.withInputs us) = (edgeDetect s).withInputs us := by
  simp only [edgeDetect, State.nextInPeak, State.nextPulse, State.edgeFired, State.aboveHigh, State.belowLow,
    acSignal_withInputs h]
  rfl

theorem periodObserve_withInputs : periodObserve (s.withInputs us) = (periodObserve s).withInputs us := by
  simp only [periodObserve, State.monitorEvent, State.nextTimedOut, State.nextPrevTs, State.silent,
    elapsed_withInputs h, ts_withInputs h]
  rfl

theorem frameEncode_withInputs : frameEncode (s.withInputs us) = (frameEncode s).withInputs us := by
  simp only [frameEncode, State.frameFields, sample_withInputs h]
  rfl

theorem acceptFrame_withInputs : (s.withInputs us).acceptFrame = s.acceptFrame.withInputs us := by
  simp only [State.acceptFrame, frameEncode_withInputs h]
  rfl

theorem trySend_withInputs : trySend (s.withInputs us) = andThen (trySend s) fun t => .next (t.withInputs us) := by
  have hx : (s.withInputs us).txIdx = s.txIdx := rfl
  simp only [trySend, hx, acceptFrame_withInputs h]
  split
  · rfl
  split <;> rfl

theorem drainOne_withInputs : drainOne (s.withInputs us) = andThen (drainOne s) fun t => .next (t.withInputs us) := by
  have hx : (s.withInputs us).txIdx = s.txIdx := rfl
  simp only [drainOne, hx, txReady_withInputs h]
  split
  · rfl
  split <;> rfl

theorem sampleOpto_withInputs :
    exec .sampleOpto (s.withInputs us) = andThen (exec .sampleOpto s) fun t => .next (t.withInputs us) := by
  simp only [exec, execSampleOpto, dcUpdate_withInputs h]
  cases hd : dcUpdate s with
  | fault r => rfl
  | refused r => rfl
  | next e =>
    have he : e.SameIv us := h.of_sameModel (dcUpdate_sameModel hd)
    have hf : (edgeDetect e).SameIv us := he.of_sameModel ⟨rfl, rfl, rfl⟩
    simp only [andThen_next, edgeDetect_withInputs he, periodObserve_withInputs hf, takeEvent_withInputs]
    rfl

theorem sampleCurr_withInputs :
    exec .sampleCurr (s.withInputs us) = andThen (exec .sampleCurr s) fun t => .next (t.withInputs us) := by
  simp only [exec, execSampleCurr, trySend_withInputs h]
  cases trySend s <;> rfl

/-- An operation sees of the inputs only the current vector. -/
theorem exec_withInputs (i : Instr) :
    exec i (s.withInputs us) = andThen (exec i s) fun t => .next (t.withInputs us) := by
  cases i with
  | reset | reservedSeq | convStart | ignoreDone | wait => rfl
  | drainOne => exact drainOne_withInputs h
  | sampleOpto => exact sampleOpto_withInputs h
  | sampleVolt => simp only [exec_sampleVolt, sample_withInputs h]; rfl
  | sampleCurr => exact sampleCurr_withInputs h
  | dcUpdate => exact dcUpdate_withInputs h
  | edgeDetect => simp [edgeDetect_withInputs h]
  | periodObserve => simp [periodObserve_withInputs h]
  | trySend => exact trySend_withInputs h
  | frameEncode => simp [frameEncode_withInputs h]

end

theorem runOps_withInputs (ops : List Instr) {s : State} {us : List IV} (h : s.SameIv us) :
    runOps ops (s.withInputs us) = andThen (runOps ops s) fun t => .next (t.withInputs us) := by
  induction ops generalizing s with
  | nil => rfl
  | cons i is ih =>
    rw [runOps_cons, runOps_cons, exec_withInputs h]
    cases hi : exec i s with
    | fault r => rfl
    | refused r => rfl
    | next t => exact ih (h.of_sameModel (exec_sameModel hi))

/-- A step sees of the inputs only the current vector, and hands the others on (R16). -/
theorem step_withInputs {s : State} {us : List IV} (h : s.SameIv us) :
    step (s.withInputs us) = andThen (step s) fun t => .next (t.withInputs us.tail) := by
  have hb : s.beginCycle.SameIv us := h.of_sameModel ⟨rfl, rfl, rfl⟩
  have hbegin : (s.withInputs us).beginCycle = s.beginCycle.withInputs us := rfl
  simp only [step, runCycle, refusedCycle_withInputs h, dv_withInputs h, hbegin, runOps_withInputs _ hb]
  cases s.refusedCycle with
  | some r => rfl
  | none => cases runOps (decode s.dv) s.beginCycle <;> rfl

end Sys2Proof.Machine

namespace Sys2Proof.Proofs

open Sys2Proof.Machine

/-- Settles O38: what a step keeps, and two lists of inputs with the same first vector. -/
theorem stepUsesOneInputVector : Obligations.StepUsesOneInputVector := by
  refine ⟨fun s t h => step_model h, fun s t v vs ws h => ?_⟩
  have hsame : (s.withInputs (v :: vs)).SameIv (v :: ws) := rfl
  have hws := step_withInputs hsame
  rw [show step (s.withInputs (v :: vs)) = .next t from h] at hws
  exact hws

/-- Settles O39: giving the free vector as the only input leaves the current vector and, after the step, the empty list. -/
theorem missingInputIsFree : Obligations.MissingInputIsFree := by
  intro s hs
  have hsame : s.SameIv [Config.envInput s.cycle] := by
    simp [State.SameIv, State.withInputs, State.iv, hs]
  refine Eq.trans ?_ (step_withInputs hsame).symm
  cases hstep : step s with
  | fault r => rfl
  | refused r => rfl
  | next t =>
    obtain ⟨_, hi, _⟩ := step_model hstep
    have ht : t.inputs = [] := by rw [hi, hs]; rfl
    exact congrArg Host.Outcome.next (State.withInputs_of_inputs_eq ht).symm

end Sys2Proof.Proofs
end

section
/-! SUPPORT. The invariant of R38: what a reset gives, and what each operation and each phase of a cycle keeps of it. -/

namespace Sys2Proof.Machine

/-! ## The stored sum -/

/-- A write below `n` exchanges the old entry for the new value in the sum of the first `n` entries. -/
theorem Memory.sum_write {w : Nat} {m : Memory w} (h : m.wf = true) {n a : Nat} (ha : a < n) (v : BitVec w) :
    ∑ i ∈ Finset.range n, ((m.write a v).read i).toNat + (m.read a).toNat =
      ∑ i ∈ Finset.range n, (m.read i).toNat + v.toNat := by
  have hmem : a ∈ Finset.range n := Finset.mem_range.2 ha
  have hrest : ∑ i ∈ (Finset.range n).erase a, ((m.write a v).read i).toNat =
      ∑ i ∈ (Finset.range n).erase a, (m.read i).toNat :=
    Finset.sum_congr rfl fun i hi => by rw [Memory.read_write_other h (Finset.ne_of_mem_erase hi)]
  rw [← Finset.add_sum_erase _ _ hmem, ← Finset.add_sum_erase _ (fun i => (m.read i).toNat) hmem, hrest,
    Memory.read_write_same h]
  omega

/-- Every stored sample fits ADC_W bits, so the sum of `count` of them is at most `count` times the greatest (R27). -/
theorem State.Legal.sum_le {s : State} (hl : s.Legal) (hm : s.Stored) : s.sum ≤ s.count * (2 ^ s.params.adcW - 1) := by
  have hle : ∀ i ∈ Finset.range s.count, (s.hist.read i).toNat ≤ 2 ^ s.params.adcW - 1 :=
    fun i _ => Nat.le_sub_one_of_lt (hm.hist_fits i)
  simpa [hl.sum_stored] using Finset.sum_le_card_nsmul _ _ _ hle

/-! ## Reset -/

/-- The reset column is legal: nothing is stored, nothing pending, and the sequencer is at OPTO (R38, R200). -/
theorem State.resetRegisters_legal {s : State} (hw : 1 ≤ s.params.win) : s.resetRegisters.Legal where
  seq_legal := by simp
  count_le := Nat.zero_le _
  hidx_lt := hw
  fill_slot := fun _ => rfl
  sum_stored := rfl
  pulse_high := nofun
  txIdx_le := Nat.le_refl 8
  volt_fits := Nat.two_pow_pos _
  pending_last := fun _ _ => rfl
  status_latch := rfl

/-- The state after reset has its registers where RESET puts them. -/
theorem State.resetOf_eq_resetRegisters (p : Params) : State.resetOf p = (State.resetOf p).resetRegisters := rfl

theorem State.resetOf_legal {p : Params} (hw : 1 ≤ p.win) : (State.resetOf p).Legal :=
  State.resetOf_eq_resetRegisters p ▸ State.resetRegisters_legal hw

theorem State.resetOf_stored (p : Params) : (State.resetOf p).Stored where
  hist_wf := rfl
  hist_range := fun _ _ => rfl
  hist_fits := fun _ => Nat.two_pow_pos _
  frame_wf := rfl
  frame_range := fun _ _ => rfl

/-- The parameters of R5 are legal, whatever the OPEN ones are (log 1). -/
theorem Config.params_wf : Config.params.Wf := by
  have h9 := Config.adcWOver8.isLt
  simp only [Params.Wf, Config.params]
  omega

/-! ## The tracker -/

/-- DC_UPDATE keeps the next slot at `count` while the window fills (R38 item 3). -/
theorem dcUpdate_fill_slot {s t : State} (hs : s.count < s.params.win → s.hidx = s.count) (h : dcUpdate s = .next t) :
    t.count < t.params.win → t.hidx = t.count := by
  obtain ⟨_, ⟨hc, rfl⟩ | ⟨hc, _, rfl⟩⟩ := dcUpdate_next h
  · intro ht
    simp only [State.trackerFill_hidx, State.trackerFill_count, State.trackerFill_params] at ht ⊢
    rw [hs hc, Nat.mod_eq_of_lt ht]
  · intro ht
    simp only [State.trackerEvict_count, State.trackerEvict_params] at ht
    omega

/-- DC_UPDATE keeps `sum` the sum of the stored samples: it adds the new one, less the one it evicts (R38 item 4). -/
theorem dcUpdate_sum_stored {s t : State} (hl : s.Legal) (hw : s.hist.wf = true) (h : dcUpdate s = .next t) :
    t.sum = ∑ i ∈ Finset.range t.count, (t.hist.read i).toNat := by
  obtain ⟨hh, ⟨hc, rfl⟩ | ⟨hc, ho, rfl⟩⟩ := dcUpdate_next h
  · have hslot := hl.fill_slot hc
    have hsum := Memory.sum_write hw (n := s.count + 1) (by omega : s.hidx < s.count + 1) s.sample
    rw [Finset.sum_range_succ (fun i => (s.hist.read i).toNat), ← hl.sum_stored, hslot] at hsum
    simp only [State.trackerFill_sum, State.trackerFill_count, State.trackerFill_hist, hslot]
    omega
  · have hsum := Memory.sum_write hw (hc ▸ hh) s.sample
    rw [← hl.sum_stored] at hsum
    simp only [State.trackerEvict_sum, State.trackerEvict_count, State.trackerEvict_hist, State.oldest] at ho ⊢
    omega

theorem dcUpdate_legal {s t : State} (hl : s.Legal) (hw : s.hist.wf = true) (h : dcUpdate s = .next t) : t.Legal := by
  have hslot := dcUpdate_fill_slot hl.fill_slot h
  have hsum := dcUpdate_sum_stored hl hw h
  obtain ⟨_, ⟨hc, rfl⟩ | ⟨_, _, rfl⟩⟩ := dcUpdate_next h
  · exact { hl with
      count_le := hc
      hidx_lt := Nat.mod_lt _ (Nat.zero_lt_of_lt hc)
      fill_slot := hslot
      sum_stored := hsum }
  · exact { hl with
      hidx_lt := Nat.mod_lt _ (Nat.zero_lt_of_lt hl.hidx_lt)
      fill_slot := hslot
      sum_stored := hsum }

/-- DC_UPDATE writes the sample to the slot at `hidx` and no other memory, in either branch. -/
theorem dcUpdate_memories {s t : State} (h : dcUpdate s = .next t) :
    t.hist = s.hist.write s.hidx s.sample ∧ t.frame = s.frame := by
  obtain ⟨_, ⟨_, rfl⟩ | ⟨_, _, rfl⟩⟩ := dcUpdate_next h <;> exact ⟨rfl, rfl⟩

theorem dcUpdate_stored {s t : State} (hm : s.Stored) (h : dcUpdate s = .next t) : t.Stored := by
  obtain ⟨hist, frame⟩ := dcUpdate_memories h
  have hp : t.params = s.params := (dcUpdate_sameModel h).1
  have hb := Nat.two_pow_pos s.params.adcW
  obtain ⟨hwf, hrange, hfits⟩ := (Memory.fits_iff hb).1
    (Memory.write_fits ((Memory.fits_iff hb).2 ⟨hm.hist_wf, hm.hist_range, hm.hist_fits⟩) (dcUpdate_next h).1
      (lowBits_lt s.params.adcW (ivAdcData s.iv)))
  constructor <;> simp only [hist, frame, hp]
  · exact hwf
  · exact hrange
  · exact hfits
  · exact hm.frame_wf
  · exact hm.frame_range

/-- The estimate handed on is the new sum over the new count, in either branch (R100). -/
theorem dcUpdate_dc {s t : State} (h : dcUpdate s = .next t) : t.wires.dc = t.sum / t.count := by
  obtain ⟨_, ⟨_, rfl⟩ | ⟨hc, _, rfl⟩⟩ := dcUpdate_next h
  · rfl
  · simp [hc]

/-! ## The detector, the monitor and the publish event -/

/-- EDGE_DETECT never leaves the pulse low in the peak (R38 item 5). -/
theorem edgeDetect_legal {s : State} (hl : s.Legal) : (edgeDetect s).Legal :=
  { hl with
    pulse_high := by
      have hp := hl.pulse_high
      simp only [edgeDetect_inPeak, edgeDetect_pulseQ, State.nextInPeak, State.nextPulse]
      cases hi : s.inPeak with
      | true => exact fun _ => hp hi
      | false => exact id }

/-- A measured period ends with `timed_out = 0`: only source rule 2 measures, and it leaves the cleared flag (R120). -/
theorem nextTimedOut_of_measured {s : State} {p : Half} (h : s.monitorEvent = .measured p) : s.nextTimedOut = false := by
  unfold State.monitorEvent at h
  unfold State.nextTimedOut
  split at h
  · cases h
  split at h
  · next hn he =>
    have ht : s.timedOut = false := by simpa [he] using hn
    simp [he, ht]
  · split at h <;> cases h

/-- PERIOD_OBSERVE and the publish event, taken at OPTO, leave `pending_period` the last event's (R38 item 8). -/
theorem takeEvent_legal {s : State} (hl : s.Legal) (h0 : s.seq = 0) : (periodObserve s).takeEvent.Legal := by
  have hw : (periodObserve s).wires.event = s.monitorEvent := rfl
  unfold State.takeEvent
  rw [hw]
  cases he : s.monitorEvent with
  | none => exact { hl with pending_last := by simp [h0] }
  | measured p => exact { hl with seq_legal := by simp, pending_last := by simp [nextTimedOut_of_measured he] }
  | timedOut => exact { hl with seq_legal := by simp, pending_last := fun _ _ => rfl }

theorem takeEvent_stored {s : State} (hm : s.Stored) : (periodObserve (edgeDetect s)).takeEvent.Stored := by
  unfold State.takeEvent
  split <;> exact { hm with }

/-! ## The transmitter -/

theorem encodeFrame_length (b : Byte) (x : FrameFields) : (encodeFrame b x).length = 8 := rfl

/-- An accepted frame fills bytes 0 to 7 and no entry beyond (R34, R53). -/
theorem acceptFrame_stored {s : State} (hm : s.Stored) : s.acceptFrame.Stored :=
  { hm with
    frame_wf := Memory.writeFrom_wf hm.frame_wf _ _
    frame_range := fun i hi => by
      rw [State.acceptFrame_frame, Memory.read_writeFrom hm.frame_wf, encodeFrame_length, if_neg (by omega)]
      exact hm.frame_range i hi }

theorem trySend_stored {s t : State} (hm : s.Stored) (h : trySend s = .next t) : t.Stored := by
  obtain ⟨_, rfl⟩ | ⟨_, rfl⟩ := trySend_next h
  · exact acceptFrame_stored hm
  · exact { hm with }

/-- SAMPLE_CURR leaves `status_q` at the latch's new value and `tx_idx` pending or as it was (R38 items 6 and 9). -/
theorem sampleCurr_legal {s t : State} (hl : s.Legal) (h : trySend s = .next t) :
    State.Legal { t with statusQ := t.failLatch, seq := 0, convBusy := false } := by
  obtain ⟨_, rfl⟩ | ⟨_, rfl⟩ := trySend_next h
  · exact { hl with seq_legal := by simp, txIdx_le := by simp, pending_last := by simp, status_latch := rfl }
  · exact { hl with seq_legal := by simp, pending_last := by simp, status_latch := rfl }

/-! ## The phases of a cycle -/

theorem DrainPhase.legal {s d : State} (h : DrainPhase s d) (hl : s.Legal) : d.Legal := by
  obtain ⟨h8, _, rfl⟩ | ⟨_, rfl⟩ := h
  · exact { hl with txIdx_le := by rw [State.sendByte_txIdx]; bv_omega }
  · exact hl

theorem DrainPhase.stored {s d : State} (h : DrainPhase s d) (hm : s.Stored) : d.Stored := by
  obtain ⟨_, _, rfl⟩ | ⟨_, rfl⟩ := h
  · exact { hm with }
  · exact hm

theorem SequencerPhase.legal {d u : State} (h : SequencerPhase d u) (hl : d.Legal) (hm : d.Stored) : u.Legal := by
  cases h with
  | start _ => exact { hl with }
  | wait _ _ => exact hl
  | opto _ _ hs e he =>
    have he0 : (edgeDetect e).seq = 0 := by
      obtain ⟨_, ⟨_, rfl⟩ | ⟨_, _, rfl⟩⟩ := dcUpdate_next he <;> exact hs
    exact { takeEvent_legal (edgeDetect_legal (dcUpdate_legal hl hm.hist_wf he)) he0 with }
  | volt _ _ hs =>
    exact { hl with
      seq_legal := by simp
      volt_fits := lowBits_lt _ _
      pending_last := fun _ => hl.pending_last (.inl hs) }
  | curr _ _ _ e he => exact sampleCurr_legal hl he

theorem SequencerPhase.stored {d u : State} (h : SequencerPhase d u) (hm : d.Stored) : u.Stored := by
  cases h with
  | start _ => exact { hm with }
  | wait _ _ => exact hm
  | opto _ _ _ e he => exact { takeEvent_stored (dcUpdate_stored hm he) with }
  | volt _ _ _ => exact { hm with }
  | curr _ _ _ e he => exact { trySend_stored hm he with }

/-- Every step keeps what R38 and the ranges of R20 ask of the registers and memories. -/
theorem step_legal_stored {s t : State} (hp : s.params.Wf) (hl : s.Legal) (hm : s.Stored) (h : step s = .next t) :
    t.Legal ∧ t.Stored := by
  obtain ⟨_, rfl⟩ | ⟨_, _, _, d, u, hd, hu, rfl⟩ := step_cases h
  · obtain ⟨_, _, hw, _⟩ := hp
    exact ⟨{ State.resetRegisters_legal (s := s.beginCycle) hw with }, { hm with }⟩
  · have hdl : d.Legal := hd.legal { hl with }
    have hdm : d.Stored := hd.stored { hm with }
    exact ⟨{ hu.legal hdl hdm with }, { hu.stored hdm with }⟩

/-- Every step ends with nothing handed on (R42). -/
theorem step_wires {s t : State} (h : step s = .next t) : t.wires = Wires.idle := by
  obtain ⟨_, u, _, rfl⟩ := step_eq_next_iff.1 h
  rfl

/-! ## What is not refused -/

/-- A state outside `seq = 3` in which the cycle finds nothing to refuse is legal, and its memories are in range (R38, R20). -/
theorem legal_stored_of_broken_eq_none {s : State} (h3 : s.seq ≠ 3) (hb : s.broken = none) : s.Legal ∧ s.Stored := by
  obtain ⟨hcount, hhidx, htx, hslot, hhist, hframe, hsum, hpulse, hvolt, hpend, hstat⟩ := (broken_eq_none_iff s).1 hb
  obtain ⟨hwf, hrange, hfits⟩ := (Memory.fits_iff (Nat.two_pow_pos _)).1 hhist
  obtain ⟨hfwf, hfrange, _⟩ := (Memory.fits_iff (Nat.two_pow_pos _)).1 hframe
  exact ⟨⟨h3, hcount, hhidx, hslot, hsum.trans (Memory.sumBelow_eq_sum hwf _), hpulse, htx, hvolt, hpend, hstat⟩,
    ⟨hwf, hrange, hfits, hfwf, hfrange⟩⟩

/-! ## The published period -/

/-- A transmitter phase publishes nothing and leaves `pending_period` alone. -/
theorem DrainPhase.publish {s d : State} (h : DrainPhase s d) :
    d.pendingPeriod = s.pendingPeriod ∧ d.out.pubValid = s.out.pubValid := by
  obtain ⟨_, _, rfl⟩ | ⟨_, rfl⟩ := h <;> exact ⟨rfl, rfl⟩

/-- DC_UPDATE leaves the sequencer and `pending_period` alone. -/
theorem dcUpdate_sequencer {s t : State} (h : dcUpdate s = .next t) : t.seq = s.seq ∧ t.pendingPeriod = s.pendingPeriod := by
  obtain ⟨_, ⟨_, rfl⟩ | ⟨_, _, rfl⟩⟩ := dcUpdate_next h <;> exact ⟨rfl, rfl⟩

theorem trySend_publish {s t : State} (h : trySend s = .next t) :
    t.pendingPeriod = s.pendingPeriod ∧ t.out.pubValid = s.out.pubValid := by
  obtain ⟨_, rfl⟩ | ⟨_, rfl⟩ := trySend_next h <;> exact ⟨rfl, rfl⟩

/-- What a cycle's publish ports say of `pending_period` and `seq` (R38 item 8): a publish stores its period and moves to VOLT, and
without one the old period, `p`, stays. -/
def State.PendingFollows (p : Half) (u : State) : Prop :=
  (u.out.pubValid = true → u.pendingPeriod = u.out.pubPeriod ∧ u.seq = 1) ∧ (u.out.pubValid = false → u.pendingPeriod = p)

theorem State.pendingFollows_of_silent {p : Half} {u : State} (hp : u.pendingPeriod = p) (hv : u.out.pubValid = false) :
    u.PendingFollows p :=
  ⟨fun h => absurd (h.symm.trans hv) (by decide), fun _ => hp⟩

/-- PERIOD_OBSERVE drives the ports with the event that is then taken, whatever the ports showed before. -/
theorem takeEvent_pendingFollows (s : State) : (periodObserve s).takeEvent.PendingFollows s.pendingPeriod := by
  have hw : (periodObserve s).wires.event = s.monitorEvent := rfl
  have hout : (periodObserve s).out = (s.emitPublish s.monitorEvent).out := rfl
  unfold State.PendingFollows
  rw [State.takeEvent_out, State.takeEvent_seq, State.takeEvent_pendingPeriod, hw, hout]
  cases s.monitorEvent <;> simp [encodePubValid, encodePubPeriod]

theorem SequencerPhase.pendingFollows {d u : State} (h : SequencerPhase d u) (hv : d.out.pubValid = false) :
    u.PendingFollows d.pendingPeriod := by
  cases h with
  | start _ => exact State.pendingFollows_of_silent rfl hv
  | wait _ _ => exact State.pendingFollows_of_silent rfl hv
  | opto _ _ _ e he => exact (dcUpdate_sequencer he).2 ▸ takeEvent_pendingFollows (edgeDetect e)
  | volt _ _ _ => exact State.pendingFollows_of_silent rfl hv
  | curr _ _ _ e he =>
    obtain ⟨hp, hout⟩ := trySend_publish he
    exact State.pendingFollows_of_silent hp (hout.trans hv)

end Sys2Proof.Machine

namespace Sys2Proof.Proofs

open Sys2Proof.Machine

/-- Settles O36, by a transmitter phase, a sequencer phase and the clock edge, or a reset cycle. -/
theorem everyStepKeepsTheInvariant : Obligations.EveryStepKeepsTheInvariant := by
  intro s t hi h
  obtain ⟨hl, hm⟩ := step_legal_stored hi.params_wf hi.legal hi.stored h
  exact ⟨(step_model h).1 ▸ hi.params_wf, hl, hm, step_wires h⟩

/-- Settles O35: a step that is not refused starts in a state with nothing broken. -/
theorem unreachableStatesAreRefused : Obligations.UnreachableStatesAreRefused := by
  intro s hr hn
  cases h : step s with
  | next t =>
    obtain ⟨h3, hb⟩ := step_next_legal h hr
    exact absurd (legal_stored_of_broken_eq_none h3 hb) hn
  | fault r => cases r
  | refused r => exact ⟨r, rfl⟩

/-- Settles O43: the estimate is the sum after DC_UPDATE over its count, and that state is legal again. -/
theorem sumAndEstimateFitTheirWidths : Obligations.SumAndEstimateFitTheirWidths := by
  intro s hi
  have hmax : s.sum ≤ s.params.win * (2 ^ s.params.adcW - 1) :=
    (hi.legal.sum_le hi.stored).trans (Nat.mul_le_mul_right _ hi.legal.count_le)
  refine ⟨hmax, ?_, ?_⟩
  · have hwin : s.params.win ≤ 2 ^ s.params.hidxW := Nat.le_pow_clog (by decide) _
    have hpos := Nat.two_pow_pos s.params.adcW
    calc s.sum ≤ s.params.win * (2 ^ s.params.adcW - 1) := hmax
      _ < s.params.win * 2 ^ s.params.adcW := Nat.mul_lt_mul_of_pos_left (by omega) (Nat.zero_lt_of_lt hi.legal.hidx_lt)
      _ ≤ 2 ^ s.params.hidxW * 2 ^ s.params.adcW := Nat.mul_le_mul_right _ hwin
      _ = 2 ^ s.params.sumW := by rw [Params.sumW, Nat.pow_add, Nat.mul_comm]
  · unfold State.dcNow
    split
    · next t ht =>
      have hsum := (dcUpdate_legal hi.legal hi.stored.hist_wf ht).sum_le (dcUpdate_stored hi.stored ht)
      rw [dcUpdate_dc ht, ← (dcUpdate_sameModel ht).1]
      exact Nat.div_le_of_le_mul hsum
    · exact Nat.zero_le _
    · exact Nat.zero_le _

/-- Settles O49: only the sequencer phase of a SAMPLE_OPTO cycle publishes. -/
theorem pendingPeriodIsTheLastPublish : Obligations.PendingPeriodIsTheLastPublish := by
  intro s t _ h hr
  obtain ⟨hr', _⟩ | ⟨_, _, _, d, u, hd, hu, rfl⟩ := step_cases h
  · rw [hr] at hr'; cases hr'
  · obtain ⟨hp, hv⟩ := hd.publish
    exact hp ▸ hu.pendingFollows hv

/-- Settles O14, by the definition of the reset state. -/
theorem resetStateHoldsResetColumn : Obligations.ResetStateHoldsResetColumn :=
  fun _ => ⟨rfl, rfl, rfl, rfl, rfl, rfl, rfl, rfl, rfl, rfl, rfl, rfl, rfl, rfl, rfl⟩

/-- Settles O37: the registers are where RESET puts them and the memories are empty. -/
theorem resetStateMeetsTheInvariant : Obligations.ResetStateMeetsTheInvariant := by
  have hinv : ∀ p : Params, p.Wf → (State.resetOf p).Inv := fun p hp =>
    have ⟨_, _, hw, _⟩ := hp
    ⟨hp, State.resetOf_legal hw, State.resetOf_stored p, rfl⟩
  exact ⟨hinv _ Config.params_wf, hinv⟩

end Sys2Proof.Proofs
end

section
/-! SUPPORT. Memory that nothing has written since reset is never read: a run sees of `HIST` the slots below `count`, and of `FRAME`
nothing while idle (R41, R51, R54). -/

namespace Sys2Proof.Machine

/-- `s` with the memories `h` and `f` in place of its own. -/
def State.withMemories (s : State) (h : Memory 16) (f : Memory 8) : State := { s with hist := h, frame := f }

/-- The memories `h` and `f` read as those of `s` wherever `s` may read before it writes: the slots stored so far, which end at
`hidx` while the window fills, and the frame while one is pending. Beyond byte 7 the frames agree in any case. -/
structure State.Agrees (s : State) (h : Memory 16) (f : Memory 8) : Prop where
  hist_wf : s.hist.wf = true
  hist_wf' : h.wf = true
  frame_wf : s.frame.wf = true
  frame_wf' : f.wf = true
  fill_slot : s.count < s.params.win → s.hidx = s.count
  hist_read : ∀ i, i < s.count → h.read i = s.hist.read i
  frame_read : s.txIdx ≠ 8 → ∀ i, f.read i = s.frame.read i
  frame_beyond : ∀ i, 8 ≤ i → f.read i = s.frame.read i

/-- `o'` is the outcome `.next t`, but for memories that agree with those of `t`. -/
def NextAgreeing (t : State) (o' : Result) : Prop := ∃ h' f', o' = .next (t.withMemories h' f') ∧ t.Agrees h' f'

/-- Two states that meet the invariant and differ in memories a run may not read. -/
theorem State.Inv.agrees {s : State} {h : Memory 16} {f : Memory 8} (hi : s.Inv) (hi' : (s.withMemories h f).Inv)
    (hh : ∀ i, i < s.count → h.read i = s.hist.read i) (hf : s.txIdx ≠ 8 → ∀ i, f.read i = s.frame.read i) :
    s.Agrees h f where
  hist_wf := hi.stored.hist_wf
  hist_wf' := hi'.stored.hist_wf
  frame_wf := hi.stored.frame_wf
  frame_wf' := hi'.stored.frame_wf
  fill_slot := hi.legal.fill_slot
  hist_read := hh
  frame_read := hf
  frame_beyond := fun i h8 => (hi'.stored.frame_range i h8).trans (hi.stored.frame_range i h8).symm

/-- The publish event is handed on by the wires, so taking it sees no memory. -/
theorem takeEvent_withMemories (s : State) (h : Memory 16) (f : Memory 8) :
    (s.withMemories h f).takeEvent = s.takeEvent.withMemories h f := by
  have hw : (s.withMemories h f).wires = s.wires := rfl
  unfold State.takeEvent
  rw [hw]
  cases s.wires.event <;> rfl

/-- The publish event writes nothing that the agreement speaks of. -/
theorem takeEvent_agrees {s : State} {h : Memory 16} {f : Memory 8} (ha : s.Agrees h f) : s.takeEvent.Agrees h f := by
  unfold State.takeEvent
  split <;> exact { ha with }

section
variable {s t : State} {h : Memory 16} {f : Memory 8} (ha : s.Agrees h f)
include ha

/-- The history entry that is evicted at capacity is one of those stored. -/
theorem oldest_withMemories (hc : s.count = s.params.win) (hh : s.hidx < s.params.win) :
    (s.withMemories h f).oldest = s.oldest :=
  ha.hist_read s.hidx (hc ▸ hh)

/-- Storing the same sample in the next slot makes the memories agree on one slot more, up to capacity. -/
theorem hist_read_write (x : Half) {i n : Nat} (hn : n ≤ s.count ∨ n = s.count + 1 ∧ s.hidx = s.count) (hi : i < n) :
    (h.write s.hidx x).read i = (s.hist.write s.hidx x).read i := by
  rw [Memory.read_write ha.hist_wf', Memory.read_write ha.hist_wf]
  split
  · rfl
  · exact ha.hist_read i (by omega)

theorem dcUpdate_agreeing (ht : dcUpdate s = .next t) : NextAgreeing t (dcUpdate (s.withMemories h f)) := by
  have hslot := dcUpdate_fill_slot ha.fill_slot ht
  refine ⟨h.write s.hidx s.sample, f, ?_⟩
  obtain ⟨hh, ⟨hc, rfl⟩ | ⟨hc, ho, rfl⟩⟩ := dcUpdate_next ht
  · refine ⟨dcUpdate_fill (s := s.withMemories h f) hc hh, { ha with
      hist_wf := Memory.write_wf ha.hist_wf
      hist_wf' := Memory.write_wf ha.hist_wf'
      fill_slot := hslot
      hist_read := fun i hi => hist_read_write ha _ (.inr ⟨rfl, ha.fill_slot hc⟩) hi }⟩
  · have hold := oldest_withMemories ha hc hh
    refine ⟨?_, { ha with
      hist_wf := Memory.write_wf ha.hist_wf
      hist_wf' := Memory.write_wf ha.hist_wf'
      fill_slot := hslot
      hist_read := fun i hi => hist_read_write ha _ (.inl (Nat.le_refl _)) hi }⟩
    rw [dcUpdate_evict (s := s.withMemories h f) hc hh (hold ▸ ho)]
    simp only [State.trackerEvict, hold]
    rfl

/-- A frame is accepted whole: all eight bytes are written, whatever stood there. -/
theorem acceptFrame_agrees :
    s.acceptFrame.Agrees h (f.writeFrom 0 (encodeFrame s.params.header s.frameFields)) := by
  have hread : ∀ i, (f.writeFrom 0 (encodeFrame s.params.header s.frameFields)).read i = s.acceptFrame.frame.read i := by
    intro i
    rw [State.acceptFrame_frame, Memory.read_writeFrom ha.frame_wf, Memory.read_writeFrom ha.frame_wf', encodeFrame_length]
    split
    · rfl
    · next hn => exact ha.frame_beyond i (by omega)
  exact { ha with
    frame_wf := Memory.writeFrom_wf ha.frame_wf _ _
    frame_wf' := Memory.writeFrom_wf ha.frame_wf' _ _
    frame_read := fun _ => hread
    frame_beyond := fun i _ => hread i }

theorem trySend_agreeing (ht : trySend s = .next t) : NextAgreeing t (trySend (s.withMemories h f)) := by
  have hx : (s.withMemories h f).txIdx = s.txIdx := rfl
  obtain ⟨h8, rfl⟩ | ⟨hlt, rfl⟩ := trySend_next ht
  · exact ⟨_, _, by simp only [trySend, hx, h8, if_true]; rfl, acceptFrame_agrees ha⟩
  · have hne : s.txIdx ≠ 8 := by bv_omega
    exact ⟨h, f, by simp only [trySend, hx, hne, hlt, if_true, if_false]; rfl, { ha with }⟩

/-- The byte sent is one of a pending frame, on which the memories agree. -/
theorem drainOne_agreeing (ht : drainOne s = .next t) : NextAgreeing t (drainOne (s.withMemories h f)) := by
  have hx : (s.withMemories h f).txIdx = s.txIdx := rfl
  have hr : (s.withMemories h f).txReady = s.txReady := rfl
  obtain ⟨hn, rfl⟩ | ⟨hlt, hready, rfl⟩ := drainOne_next ht
  · exact ⟨h, f, by simp only [drainOne, hx, hr, hn, if_true], ha⟩
  · have hne : s.txIdx ≠ 8 := by bv_omega
    have hbyte : (s.withMemories h f).frame.read s.txIdx.toNat = s.frame.read s.txIdx.toNat := ha.frame_read hne _
    refine ⟨h, f, ?_, { ha with frame_read := fun _ => ha.frame_read hne }⟩
    simp only [drainOne, hx, hr, hne, hlt, hready, or_self, Bool.true_eq_false, if_true, if_false, State.sendByte, hbyte]
    rfl

/-- RESET leaves no slot stored and no frame pending, so the memories it keeps agree. -/
theorem resetRegisters_agrees : s.resetRegisters.Agrees h f :=
  { ha with
    fill_slot := fun _ => rfl
    hist_read := nofun
    frame_read := fun hne => absurd rfl hne }

theorem sampleOpto_agreeing (ht : exec .sampleOpto s = .next t) :
    NextAgreeing t (exec .sampleOpto (s.withMemories h f)) := by
  obtain ⟨e, he, rfl⟩ := sampleOpto_next ht
  obtain ⟨h', f', he', ha'⟩ := dcUpdate_agreeing ha he
  have hobs : periodObserve (edgeDetect (e.withMemories h' f')) = (periodObserve (edgeDetect e)).withMemories h' f' := rfl
  have hev : (periodObserve (edgeDetect e)).takeEvent.Agrees h' f' := takeEvent_agrees { ha' with }
  refine ⟨h', f', ?_, { hev with }⟩
  simp only [exec, execSampleOpto, he', andThen_next, hobs, takeEvent_withMemories]
  rfl

theorem sampleCurr_agreeing (ht : exec .sampleCurr s = .next t) :
    NextAgreeing t (exec .sampleCurr (s.withMemories h f)) := by
  obtain ⟨e, he, rfl⟩ := sampleCurr_next ht
  obtain ⟨h', f', he', ha'⟩ := trySend_agreeing ha he
  exact ⟨h', f', by simp only [exec, execSampleCurr, he', andThen_next]; rfl, { ha' with }⟩

/-- An operation gives agreeing states from agreeing states. -/
theorem exec_agreeing {i : Instr} (ht : exec i s = .next t) : NextAgreeing t (exec i (s.withMemories h f)) := by
  cases i with
  | reset => cases ht; exact ⟨h, f, rfl, resetRegisters_agrees ha⟩
  | convStart | ignoreDone | wait | sampleVolt | edgeDetect | periodObserve | frameEncode =>
    cases ht; exact ⟨h, f, rfl, { ha with }⟩
  | reservedSeq => cases ht
  | drainOne => exact drainOne_agreeing ha ht
  | sampleOpto => exact sampleOpto_agreeing ha ht
  | sampleCurr => exact sampleCurr_agreeing ha ht
  | dcUpdate => exact dcUpdate_agreeing ha ht
  | trySend => exact trySend_agreeing ha ht

end

theorem runOps_agreeing {ops : List Instr} {s t : State} {h : Memory 16} {f : Memory 8} (ha : s.Agrees h f)
    (ht : runOps ops s = .next t) : NextAgreeing t (runOps ops (s.withMemories h f)) := by
  induction ops generalizing s h f with
  | nil => cases ht; exact ⟨h, f, rfl, ha⟩
  | cons i is ih =>
    obtain ⟨u, hu, ht'⟩ := andThen_eq_next_iff.1 ht
    obtain ⟨h', f', hu', hua⟩ := exec_agreeing ha hu
    simpa only [runOps_cons, hu', andThen_next] using ih hua ht'

/-- A step gives agreeing states from agreeing states, where the other memories do not get it refused. -/
theorem step_agreeing {s t : State} {h : Memory 16} {f : Memory 8} (ha : s.Agrees h f)
    (hr : (s.withMemories h f).refusedCycle = none) (ht : step s = .next t) :
    NextAgreeing t (step (s.withMemories h f)) := by
  obtain ⟨_, u, hu, rfl⟩ := step_eq_next_iff.1 ht
  have hbegin : s.beginCycle.Agrees h f := { ha with }
  obtain ⟨h', f', hu', hua⟩ := runOps_agreeing hbegin hu
  exact ⟨h', f', step_eq_next_iff.2 ⟨hr, _, hu', rfl⟩, { hua with }⟩

end Sys2Proof.Machine

namespace Sys2Proof.Proofs

open Sys2Proof.Machine

/-- Settles O45: the operations of the cycle run in step on both states, and the memories agree after each. -/
theorem unwrittenMemoryIsUnobservable : Obligations.UnwrittenMemoryIsUnobservable := by
  intro s t h f hi hi' hh hf ht
  obtain ⟨h', f', ht', ha⟩ := step_agreeing (hi.agrees hi' hh hf) (refusedCycle_eq_none (.inl hi')) ht
  exact ⟨h', f', ht', ha.hist_read, ha.frame_read⟩

end Sys2Proof.Proofs
end

section
/-! SUPPORT. The packed vectors of 30_encoding.md: the value of an input and of an output vector fixes each port at its bits, so the
vectors and the ports correspond one to one (R71, R72). -/

namespace Sys2Proof

/-! ## Bits and fields by value -/

/-- A concatenation has the high part above the low one. -/
theorem append_toNat {m n : Nat} (x : BitVec m) (y : BitVec n) : (x ++ y).toNat = x.toNat * 2 ^ n + y.toNat := by
  rw [BitVec.toNat_append, ← Nat.shiftLeft_add_eq_or_of_lt y.isLt, Nat.shiftLeft_eq]

theorem getLsbD_toNat {n : Nat} (v : BitVec n) (i : Nat) : (v.getLsbD i).toNat = v.toNat / 2 ^ i % 2 := by
  rw [BitVec.getLsbD, Nat.toNat_testBit]

theorem getLsbD_eq_iff {n : Nat} (v : BitVec n) (i : Nat) (b : Bool) :
    v.getLsbD i = b ↔ v.toNat / 2 ^ i % 2 = b.toNat := by
  rw [← getLsbD_toNat]
  cases v.getLsbD i <;> cases b <;> simp

theorem extractLsb'_eq_iff {n k : Nat} (v : BitVec n) (i : Nat) (x : BitVec k) :
    v.extractLsb' i k = x ↔ v.toNat >>> i % 2 ^ k = x.toNat := by
  rw [← BitVec.toNat_inj, BitVec.extractLsb'_toNat]

/-! ## The input vector (R71) -/

theorem encodeIv_toNat (x : Inputs) : (encodeIv x).toNat =
    (4 * x.rst.toNat + 2 * x.adcDone.toNat + x.txReady.toNat) * 2 ^ 32 + x.adcData.toNat * 2 ^ 16 + x.ts.toNat := by
  simp only [encodeIv, append_toNat, BitVec.toNat_ofBool]
  omega

theorem decodeIv_encodeIv (x : Inputs) : decodeIv (encodeIv x) = x := by
  have hv := encodeIv_toNat x
  obtain ⟨rst, done, ready, d, t⟩ := x
  have hrst := rst.toNat_le
  have hdone := done.toNat_le
  have hready := ready.toNat_le
  simp only [decodeIv, ivRst, ivAdcDone, ivTxReady, ivAdcData, ivTs, Inputs.mk.injEq, getLsbD_eq_iff, extractLsb'_eq_iff,
    hv]
  omega

theorem encodeIv_decodeIv (v : IV) : encodeIv (decodeIv v) = v := by
  have hv := v.isLt
  apply BitVec.eq_of_toNat_eq
  simp only [encodeIv_toNat, decodeIv, ivRst, ivAdcDone, ivTxReady, ivAdcData, ivTs, getLsbD_toNat, BitVec.extractLsb'_toNat]
  omega

@[simp] theorem ivRst_encodeIv (x : Inputs) : ivRst (encodeIv x) = x.rst := congrArg Inputs.rst (decodeIv_encodeIv x)
@[simp] theorem ivAdcDone_encodeIv (x : Inputs) : ivAdcDone (encodeIv x) = x.adcDone :=
  congrArg Inputs.adcDone (decodeIv_encodeIv x)
@[simp] theorem ivTxReady_encodeIv (x : Inputs) : ivTxReady (encodeIv x) = x.txReady :=
  congrArg Inputs.txReady (decodeIv_encodeIv x)
@[simp] theorem ivAdcData_encodeIv (x : Inputs) : ivAdcData (encodeIv x) = x.adcData :=
  congrArg Inputs.adcData (decodeIv_encodeIv x)
@[simp] theorem ivTs_encodeIv (x : Inputs) : ivTs (encodeIv x) = x.ts := congrArg Inputs.ts (decodeIv_encodeIv x)

/-! ## The output vector (R72) -/

theorem encodeOv_toNat (x : Outputs) : (encodeOv x).toNat =
    x.pulseOut.toNat + 2 * x.statusOut.toNat + 2 ^ 2 * x.adcStart.toNat + 2 ^ 3 * x.adcCh.toNat + 2 ^ 5 * x.txWe.toNat +
      2 ^ 6 * x.txData.toNat + 2 ^ 14 * x.pubValid.toNat + 2 ^ 15 * x.pubKind.toNat + 2 ^ 16 * x.pubPeriod.toNat +
      2 ^ 32 * x.sendEv.toNat := by
  simp only [encodeOv, append_toNat, BitVec.toNat_ofBool]
  omega

theorem decodeOv_encodeOv (x : Outputs) : decodeOv (encodeOv x) = x := by
  have hv := encodeOv_toNat x
  obtain ⟨pulse, status, start, ch, we, data, valid, kind, period, ev⟩ := x
  have hpulse := pulse.toNat_le
  have hstatus := status.toNat_le
  have hstart := start.toNat_le
  have hwe := we.toNat_le
  have hvalid := valid.toNat_le
  have hkind := kind.toNat_le
  simp only [decodeOv, Outputs.mk.injEq, getLsbD_eq_iff, extractLsb'_eq_iff, hv]
  omega

theorem encodeOv_decodeOv (v : OV) : encodeOv (decodeOv v) = v := by
  have hv := v.isLt
  apply BitVec.eq_of_toNat_eq
  simp only [encodeOv_toNat, decodeOv, getLsbD_toNat, BitVec.extractLsb'_toNat]
  omega

/-! ## The stimulus forms (R85) -/

/-- `CONV d, t` is IV[33] beside the two numbers, and `RDY` adds IV[32]. -/
theorem encodeForm_conv {d t : Nat} (hd : d < 2 ^ 16) (ht : t < 2 ^ 16) (rdy : Bool) :
    encodeForm (.conv d t rdy) = [BitVec.ofNat 35 (0x200000000 + rdy.toNat * 2 ^ 32 + d * 2 ^ 16 + t)] := by
  have hrdy := rdy.toNat_le
  refine congrArg (fun v : IV => [v]) (BitVec.eq_of_toNat_eq ?_)
  simp only [encodeIv_toNat, BitVec.toNat_ofNat, Bool.toNat_false, Bool.toNat_true]
  omega

theorem encodeForm_raw_toNat {v : Nat} (h : v < 2 ^ 35) : (encodeForm (.raw v)).map BitVec.toNat = [v] :=
  congrArg (fun n => [n]) (Nat.mod_eq_of_lt h)

theorem encodeForm_times_succ (n : Nat) (f : Form) :
    encodeForm (.times (n + 1) f) = encodeForm f ++ encodeForm (.times n f) := rfl

theorem encodeForm_times_length (n : Nat) (f : Form) : (encodeForm (.times n f)).length = n * (encodeForm f).length := by
  simp [encodeForm]

theorem assemble_cons {l : Line} (h : l.form.wf = true) (ls : List Line) :
    assemble (l :: ls) = (assemble ls).map (encodeForm l.form ++ ·) := by
  unfold assemble
  cases hls : ls.all Line.wf <;> simp [hls, Line.wf, h]

theorem assemble_eq_none {l : Line} {ls : List Line} (hl : l ∈ ls) (h : l.form.wf = false) : assemble ls = none := by
  have hbad : ¬ ls.all Line.wf = true := fun hall => by
    have hw : l.form.wf = true := List.all_eq_true.1 hall l hl
    rw [h] at hw
    cases hw
  exact if_neg hbad

theorem Form.wf_conv_iff (d t : Nat) (r : Bool) : Form.wf (.conv d t r) = true ↔ d < 2 ^ 16 ∧ t < 2 ^ 16 := by
  simp [Form.wf]

theorem Form.wf_raw_iff (v : Nat) : Form.wf (.raw v) = true ↔ v < 2 ^ 35 := by
  simp [Form.wf]

/-! ## The enumerations (R73, R76, R77) -/

theorem decodePublish_encode (e : PublishEvent) :
    decodePublish (encodePubValid e) (encodePubKind e) (encodePubPeriod e) = some e := by
  cases e <;> rfl

theorem decodeSend_encodeSend (e : SendOutcome) : decodeSend (encodeSend e) = some e := by
  cases e <;> rfl

theorem decodeChannel_encodeChannel (c : Channel) : decodeChannel (encodeChannel c) = some c := by
  cases c <;> rfl

theorem decodeSend_three : decodeSend 3 = none := rfl

theorem decodePublish_timeout_of_ne_zero {p : Half} (h : p ≠ 0) : decodePublish true true p = none := by
  rw [decodePublish, if_pos rfl, if_pos rfl, if_neg h]

end Sys2Proof

namespace Sys2Proof.Proofs

/-- Settles O4: the value of the vector, from which the ports are read back. -/
theorem inputVectorRoundTrips : Obligations.InputVectorRoundTrips :=
  ⟨decodeIv_encodeIv, encodeIv_decodeIv, encodeIv_toNat⟩

/-- Settles O5: the value of the vector, from which the ports are read back. -/
theorem outputVectorRoundTrips : Obligations.OutputVectorRoundTrips :=
  ⟨decodeOv_encodeOv, encodeOv_decodeOv, encodeOv_toNat⟩

/-- Settles O8: the words of the forms by value, and a program line by line. -/
theorem stimulusFormsAssemble : Obligations.StimulusFormsAssemble := by
  refine ⟨rfl, rfl, rfl, fun d t hd ht => ⟨encodeForm_conv hd ht false, encodeForm_conv hd ht true⟩,
    fun v hv => encodeForm_raw_toNat hv, fun n f => ⟨encodeForm_times_succ n f, encodeForm_times_length n f⟩, rfl,
    fun l ls h => assemble_cons h ls, fun l ls hl h => assemble_eq_none hl h, rfl, fun _ => rfl, Form.wf_conv_iff,
    Form.wf_raw_iff, fun _ _ => rfl⟩

/-- Settles O9. -/
theorem enumerationCodesRoundTrip : Obligations.EnumerationCodesRoundTrip :=
  ⟨decodePublish_encode, decodeSend_encodeSend, decodeChannel_encodeChannel, decodeSend_three, rfl,
    fun _ => decodePublish_timeout_of_ne_zero⟩

end Sys2Proof.Proofs
end

section
/-! SUPPORT. The decode vector: its bits, which rows fire for it, and that a table word put into a state is the state's next decode
vector (R78 to R80). -/

namespace Sys2Proof

/-! ## The fields of a decode vector (R78) -/

/-- A decode vector shows each of its six fields at its bits. -/
theorem encodeDv_bits (rst : Bool) (seq : BitVec 2) (busy done ready pending : Bool) :
    (encodeDv rst seq busy done ready pending).getLsbD 6 = rst ∧
      (encodeDv rst seq busy done ready pending).extractLsb' 4 2 = seq ∧
      (encodeDv rst seq busy done ready pending).getLsbD 3 = busy ∧
      (encodeDv rst seq busy done ready pending).getLsbD 2 = done ∧
      (encodeDv rst seq busy done ready pending).getLsbD 1 = ready ∧
      (encodeDv rst seq busy done ready pending).getLsbD 0 = pending := by
  have hrst := rst.toNat_le
  have hbusy := busy.toNat_le
  have hdone := done.toNat_le
  have hready := ready.toNat_le
  have hpending := pending.toNat_le
  simp only [getLsbD_eq_iff, extractLsb'_eq_iff, encodeDv, append_toNat, BitVec.toNat_ofBool]
  omega

/-- Every decode vector is the one of the fields at its bits. -/
theorem encodeDv_of_bits (v : DV) :
    encodeDv (v.getLsbD 6) (v.extractLsb' 4 2) (v.getLsbD 3) (v.getLsbD 2) (v.getLsbD 1) (v.getLsbD 0) = v := by
  have hv := v.isLt
  apply BitVec.eq_of_toNat_eq
  simp only [encodeDv, append_toNat, BitVec.toNat_ofBool, getLsbD_toNat, BitVec.extractLsb'_toNat]
  omega

/-! ## Which operations fire (R79) -/

theorem rowMatches_iff (v : DV) (i : Instr) : rowMatches v i = true ↔ v &&& i.mask = i.pattern :=
  beq_iff_eq

theorem mem_cycleOrder {i : Instr} (hi : i.wf = true) : i ∈ cycleOrder := by
  cases i with
  | reset | reservedSeq | drainOne | convStart | ignoreDone | wait | sampleOpto | sampleVolt | sampleCurr => decide
  | dcUpdate | edgeDetect | periodObserve | trySend | frameEncode => cases hi

/-- Where RESERVED_SEQ's row does not match, an operation fires exactly when its own row matches. -/
theorem mem_decode_iff {v : DV} {i : Instr} (hi : i.wf = true) (hv : ¬ rowMatches v .reservedSeq = true) :
    i ∈ decode v ↔ rowMatches v i = true := by
  rw [decode, if_neg hv, List.mem_filter]
  exact and_iff_right (mem_cycleOrder hi)

/-- Where RESERVED_SEQ's row matches, it fires alone (log 11). -/
theorem decode_of_reservedSeq {v : DV} (hv : rowMatches v .reservedSeq = true) : decode v = [.reservedSeq] :=
  if_pos hv

/-- The operations of a cycle are RESET or RESERVED_SEQ alone, or a sequencer phase with or without a DRAIN_ONE before it. -/
theorem decode_cycleWf (v : DV) : cycleWf (decode v) = true ∧ (decode v).all Instr.wf = true := by
  rw [← encodeDv_of_bits v, decode_of_fields]
  split_ifs <;> decide

/-! ## Words of a row (R79, R80) -/

/-- An operation's word has no bit outside its row's mask. -/
theorem encode_and_mask (i : Instr) : encode i &&& i.mask = encode i := by
  cases i <;> rfl

/-- Every word of a row satisfies the row, whatever its don't-care bits. -/
theorem rowMatches_word (i : Instr) (d : DV) : rowMatches (encode i ||| (d &&& ~~~i.mask)) i = true := by
  rw [rowMatches_iff]
  calc (encode i ||| (d &&& ~~~i.mask)) &&& i.mask
      = (encode i &&& i.mask) ||| (d &&& (~~~i.mask &&& i.mask)) := by rw [BitVec.and_or_distrib_right, BitVec.and_assoc]
    _ = i.pattern := by rw [encode_and_mask, BitVec.not_and_self]; simp [encode]

/-- The word of an operation, every don't-care bit 0, is called by that operation's name (log 12). -/
theorem namedRow_encode {i : Instr} (hi : i.wf = true) : namedRow (encode i) = some i := by
  have hall : ∀ j ∈ cycleOrder, namedRow (encode j) = some j := by decide
  exact hall i (mem_cycleOrder hi)

theorem decodeTableWord_of_dv {n : Nat} (hn : 7 ≤ n) (v : DV) : decodeTableWord n v.toNat = namedRow v := by
  rw [decodeTableWord, Nat.min_eq_right hn, if_pos v.isLt, BitVec.ofNat_toNat, BitVec.setWidth_eq]

namespace Machine

theorem txPending_eq_decide (s : State) : s.txPending = decide (s.txIdx ≠ 8) := by
  rw [Bool.eq_iff_iff, State.txPending, bne_iff_ne, decide_eq_true_iff]

theorem dv_bits (s : State) :
    s.dv.getLsbD 6 = s.rst ∧ s.dv.extractLsb' 4 2 = s.seq ∧ s.dv.getLsbD 3 = s.convBusy ∧ s.dv.getLsbD 2 = s.adcDone ∧
      s.dv.getLsbD 1 = s.txReady ∧ s.dv.getLsbD 0 = decide (s.txIdx ≠ 8) := by
  rw [← txPending_eq_decide]
  exact encodeDv_bits _ _ _ _ _ _

/-! ## A word put into a state (log 4) -/

theorem withDv_iv (s : State) (w : DV) :
    (s.withDv w).iv = encodeIv ⟨w.getLsbD 6, w.getLsbD 2, w.getLsbD 1, 0, 0⟩ := rfl

theorem withDv_txPending (s : State) (w : DV) : (s.withDv w).txPending = w.getLsbD 0 := by
  have hidx : (s.withDv w).txIdx = if w.getLsbD 0 then (if s.txIdx = 8 then 0 else s.txIdx) else 8 := rfl
  rw [txPending_eq_decide, hidx]
  cases w.getLsbD 0 with
  | false => rfl
  | true =>
    rw [if_pos rfl]
    split
    · rfl
    · exact decide_eq_true ‹_›

/-- The state made for a word has that word as its decode vector. -/
theorem withDv_dv (s : State) (w : DV) : (s.withDv w).dv = w := by
  have hseq : (s.withDv w).seq = w.extractLsb' 4 2 := rfl
  have hbusy : (s.withDv w).convBusy = w.getLsbD 3 := rfl
  rw [State.dv, State.rst, State.adcDone, State.txReady, withDv_iv, withDv_txPending, hseq, hbusy, ivRst_encodeIv,
    ivAdcDone_encodeIv, ivTxReady_encodeIv]
  exact encodeDv_of_bits w

end Machine

end Sys2Proof

namespace Sys2Proof.Proofs

open Sys2Proof.Machine

/-- Settles O7: the state made for a word has that word as decode vector, and the word satisfies its operation's row. -/
theorem encodedOperationFiresInNextCycle : Obligations.EncodedOperationFiresInNextCycle := by
  refine ⟨fun s n w hw => ⟨withDv_dv s _, ?_⟩, fun i hi => ⟨namedRow_encode hi, ?_⟩, fun s i d hi hres => ?_⟩
  · rw [State.withFetchWord, withDv_dv, decodeWord, if_pos hw]
  · rw [decodeTableWord_of_dv (by decide), namedRow_encode hi]
  · rw [withDv_dv]
    by_cases hv : rowMatches (encode i ||| (d &&& ~~~i.mask)) .reservedSeq = true
    · rw [decode_of_reservedSeq hv, hres ((rowMatches_iff _ _).1 hv)]
      exact List.mem_singleton_self _
    · exact (mem_decode_iff hi hv).2 (rowMatches_word i d)

/-- Settles O1: each vector is written out, so the rows are tested on it. -/
theorem tableWordsDecodeToTheirOperations : Obligations.TableWordsDecodeToTheirOperations := by
  unfold Obligations.TableWordsDecodeToTheirOperations
  decide

/-- Settles O2: the fields of the vector, and the row test where RESERVED_SEQ's row does or does not match. -/
theorem rowFiresExactlyWhenMaskMatches : Obligations.RowFiresExactlyWhenMaskMatches := by
  refine ⟨dv_bits, fun v i hi => ⟨fun hv => ?_, fun hv => ?_⟩⟩
  · rw [mem_decode_iff hi fun h => hv ((rowMatches_iff _ _).1 h), rowMatches_iff]
  · rw [decode_of_reservedSeq ((rowMatches_iff _ _).2 hv), List.mem_singleton]

/-- Settles O3, by the fields of the vector. -/
theorem firingOperationsFormOneCycle : Obligations.FiringOperationsFormOneCycle := decode_cycleWf

end Sys2Proof.Proofs
end

section
/-! SUPPORT. What an operation reads of the input vector: `adc_data` below ADC_W and `ts` in the operations of R82 only, `tx_ready` in
DRAIN_ONE. Vectors that agree on what the operations of a cycle read give the same step (R71, R82, R84). -/

namespace Sys2Proof

/-- The operations that read `adc_data` (R82). -/
def Instr.readsData : Instr → Bool
  | .sampleOpto | .sampleVolt | .sampleCurr | .dcUpdate | .edgeDetect | .trySend | .frameEncode => true
  | .reset | .reservedSeq | .drainOne | .convStart | .ignoreDone | .wait | .periodObserve => false

/-- The operations that read `ts` (R82). -/
def Instr.readsTs : Instr → Bool
  | .sampleOpto | .periodObserve => true
  | .reset | .reservedSeq | .drainOne | .convStart | .ignoreDone | .wait | .sampleVolt | .sampleCurr | .dcUpdate
  | .edgeDetect | .trySend | .frameEncode => false

/-- Of the operations that a decode vector selects, only SAMPLE_OPTO reads `ts`. -/
theorem eq_sampleOpto_of_readsTs {i : Instr} (hw : i.wf = true) (hi : i.readsTs = true) : i = .sampleOpto := by
  cases i with
  | sampleOpto => rfl
  | periodObserve => cases hw
  | reset | reservedSeq | drainOne | convStart | ignoreDone | wait | sampleVolt | sampleCurr | dcUpdate | edgeDetect
  | trySend | frameEncode => cases hi

namespace Machine

/-- The list `us` gives the state, in this cycle, what operation `i` reads of its own inputs. -/
structure State.SameReads (i : Instr) (s : State) (us : List IV) : Prop where
  ready : (s.withInputs us).txReady = s.txReady
  data : i.readsData = true → (s.withInputs us).sample = s.sample
  ts : i.readsTs = true → (s.withInputs us).ts = s.ts

/-! ## Operations hand the inputs on -/

theorem SameModel.iv {s t : State} (h : SameModel s t) : t.iv = s.iv := State.iv_congr h.2.1 h.2.2

theorem SameModel.txReady {s t : State} (h : SameModel s t) : t.txReady = s.txReady := congrArg ivTxReady h.iv

theorem SameModel.ts {s t : State} (h : SameModel s t) : t.ts = s.ts := congrArg ivTs h.iv

theorem SameModel.sample {s t : State} (h : SameModel s t) : t.sample = s.sample := by
  unfold State.sample; rw [h.iv, h.1]

theorem SameModel.withInputs {s t : State} (h : SameModel s t) (us : List IV) :
    SameModel (s.withInputs us) (t.withInputs us) := ⟨h.1, rfl, h.2.2⟩

theorem State.SameReads.of_sameModel {i : Instr} {s t : State} {us : List IV} (h : s.SameReads i us) (ht : SameModel s t) :
    t.SameReads i us where
  ready := (ht.withInputs us).txReady.trans (h.ready.trans ht.txReady.symm)
  data hi := (ht.withInputs us).sample.trans ((h.data hi).trans ht.sample.symm)
  ts hi := (ht.withInputs us).ts.trans ((h.ts hi).trans ht.ts.symm)

/-! ## Each body by the ports it reads -/

theorem drainOne_of_txReady {s : State} {us : List IV} (h : (s.withInputs us).txReady = s.txReady) :
    drainOne (s.withInputs us) = andThen (drainOne s) fun t => .next (t.withInputs us) := by
  have hx : (s.withInputs us).txIdx = s.txIdx := rfl
  simp only [drainOne, hx, h]
  split
  · rfl
  split <;> rfl

section
variable {s : State} {us : List IV} (h : (s.withInputs us).sample = s.sample)
include h

theorem dcUpdate_of_sample : dcUpdate (s.withInputs us) = andThen (dcUpdate s) fun t => .next (t.withInputs us) := by
  have hb : (s.withInputs us).trackerBroken = s.trackerBroken := rfl
  have hf : (s.withInputs us).filling = s.filling := rfl
  simp only [dcUpdate, hb, hf, h]
  cases s.trackerBroken with
  | some r => rfl
  | none => cases s.filling <;> rfl

theorem edgeDetect_of_sample : edgeDetect (s.withInputs us) = (edgeDetect s).withInputs us := by
  have hac : (s.withInputs us).acSignal = s.acSignal :=
    congrArg (fun x : Half => (x.toNat : Int) - (s.wires.dc : Int)) h
  simp only [edgeDetect, State.nextInPeak, State.nextPulse, State.edgeFired, State.aboveHigh, State.belowLow, hac]
  rfl

theorem frameEncode_of_sample : frameEncode (s.withInputs us) = (frameEncode s).withInputs us := by
  simp only [frameEncode, State.frameFields, h]
  rfl

theorem trySend_of_sample : trySend (s.withInputs us) = andThen (trySend s) fun t => .next (t.withInputs us) := by
  have hx : (s.withInputs us).txIdx = s.txIdx := rfl
  simp only [trySend, hx, State.acceptFrame, frameEncode_of_sample h]
  split
  · rfl
  split <;> rfl

theorem sampleCurr_of_sample :
    exec .sampleCurr (s.withInputs us) = andThen (exec .sampleCurr s) fun t => .next (t.withInputs us) := by
  simp only [exec, execSampleCurr, trySend_of_sample h]
  cases trySend s <;> rfl

end

theorem periodObserve_of_ts {s : State} {us : List IV} (h : (s.withInputs us).ts = s.ts) :
    periodObserve (s.withInputs us) = (periodObserve s).withInputs us := by
  have he : (s.withInputs us).elapsed = s.elapsed := congrArg (tsdiff · s.prevTs) h
  simp only [periodObserve, State.monitorEvent, State.nextTimedOut, State.nextPrevTs, State.silent, he, h]
  rfl

theorem sampleOpto_of_sample_ts {s : State} {us : List IV} (h : s.SameReads .sampleOpto us) :
    exec .sampleOpto (s.withInputs us) = andThen (exec .sampleOpto s) fun t => .next (t.withInputs us) := by
  simp only [exec, execSampleOpto, dcUpdate_of_sample (h.data rfl)]
  cases hd : dcUpdate s with
  | fault r => rfl
  | refused r => rfl
  | next e =>
    have he : e.SameReads .sampleOpto us := h.of_sameModel (dcUpdate_sameModel hd)
    have hts : ((edgeDetect e).withInputs us).ts = (edgeDetect e).ts := he.ts rfl
    simp only [andThen_next, edgeDetect_of_sample (he.data rfl), periodObserve_of_ts hts, takeEvent_withInputs]
    rfl

/-! ## Operations, cycles, steps -/

/-- An operation gives the same outcome on every input vector that agrees with the state's on what the operation reads. -/
theorem exec_of_sameReads {i : Instr} {s : State} {us : List IV} (h : s.SameReads i us) :
    exec i (s.withInputs us) = andThen (exec i s) fun t => .next (t.withInputs us) := by
  cases i with
  | reset | reservedSeq | convStart | ignoreDone | wait => rfl
  | drainOne => exact drainOne_of_txReady h.ready
  | sampleOpto => exact sampleOpto_of_sample_ts h
  | sampleVolt => simp only [exec_sampleVolt, h.data rfl]; rfl
  | sampleCurr => exact sampleCurr_of_sample (h.data rfl)
  | dcUpdate => exact dcUpdate_of_sample (h.data rfl)
  | edgeDetect => simp [edgeDetect_of_sample (h.data rfl)]
  | periodObserve => simp [periodObserve_of_ts (h.ts rfl)]
  | trySend => exact trySend_of_sample (h.data rfl)
  | frameEncode => simp [frameEncode_of_sample (h.data rfl)]

theorem runOps_of_sameReads {ops : List Instr} {s : State} {us : List IV} (h : ∀ i ∈ ops, s.SameReads i us) :
    runOps ops (s.withInputs us) = andThen (runOps ops s) fun t => .next (t.withInputs us) := by
  induction ops generalizing s with
  | nil => rfl
  | cons i is ih =>
    rw [runOps_cons, runOps_cons, exec_of_sameReads (h i List.mem_cons_self)]
    cases hi : exec i s with
    | fault r => rfl
    | refused r => rfl
    | next t => exact ih fun j hj => (h j (List.mem_cons_of_mem i hj)).of_sameModel (exec_sameModel hi)

/-- The list `us` gives the state the strobes `rst`, `adc_done` and `tx_ready` of its own inputs. -/
structure State.SameStrobes (s : State) (us : List IV) : Prop where
  rst : (s.withInputs us).rst = s.rst
  adcDone : (s.withInputs us).adcDone = s.adcDone
  txReady : (s.withInputs us).txReady = s.txReady

theorem State.SameStrobes.dv {s : State} {us : List IV} (h : s.SameStrobes us) : (s.withInputs us).dv = s.dv := by
  simp only [State.dv, h.rst, h.adcDone, h.txReady]
  rfl

theorem State.SameStrobes.refusedCycle {s : State} {us : List IV} (h : s.SameStrobes us) :
    (s.withInputs us).refusedCycle = s.refusedCycle := by
  simp only [State.refusedCycle, h.rst]
  rfl

/-- Input vectors with the same strobes, which agree on what the operations of the cycle read, give the same step where the same
vectors come after them. -/
theorem step_of_sameReads {s : State} {us : List IV} (hs : s.SameStrobes us) (htail : us.tail = s.inputs.tail)
    (h : ∀ i ∈ decode s.dv, s.SameReads i us) : step (s.withInputs us) = step s := by
  have hbegin : (s.withInputs us).beginCycle = s.beginCycle.withInputs us := rfl
  have hops : ∀ i ∈ decode s.dv, s.beginCycle.SameReads i us := fun i hi => (h i hi).of_sameModel ⟨rfl, rfl, rfl⟩
  simp only [step, runCycle, hs.refusedCycle, hs.dv, hbegin, runOps_of_sameReads hops]
  cases s.refusedCycle with
  | some r => rfl
  | none =>
    cases hu : runOps (decode s.dv) s.beginCycle with
    | fault r => rfl
    | refused r => rfl
    | next u =>
      have hus : u.endCycle.inputs = us.tail := by
        rw [State.endCycle_inputs, (runOps_sameModel hu).2.1, State.beginCycle_inputs, htail]
      exact congrArg Host.Outcome.next (State.withInputs_of_inputs_eq hus)

/-! ## Input ports one by one -/

/-- The state `s` in a cycle with input ports `x`, and the vectors `vs` after it. -/
def State.withPorts (s : State) (x : Inputs) (vs : List IV) : State := s.withInputs (encodeIv x :: vs)

section
variable (s : State) (x : Inputs) (vs : List IV)

@[simp] theorem State.withPorts_inputs : (s.withPorts x vs).inputs = encodeIv x :: vs := rfl
@[simp] theorem State.withPorts_convBusy : (s.withPorts x vs).convBusy = s.convBusy := rfl
@[simp] theorem State.withPorts_rst : (s.withPorts x vs).rst = x.rst := ivRst_encodeIv x
@[simp] theorem State.withPorts_adcDone : (s.withPorts x vs).adcDone = x.adcDone := ivAdcDone_encodeIv x
@[simp] theorem State.withPorts_txReady : (s.withPorts x vs).txReady = x.txReady := ivTxReady_encodeIv x
@[simp] theorem State.withPorts_ts : (s.withPorts x vs).ts = x.ts := ivTs_encodeIv x
@[simp] theorem State.withPorts_sample : (s.withPorts x vs).sample = lowBits s.params.adcW x.adcData :=
  congrArg (lowBits s.params.adcW) (ivAdcData_encodeIv x)

theorem State.withPorts_withInputs (y : Inputs) :
    (s.withPorts x vs).withInputs (encodeIv y :: vs) = s.withPorts y vs := rfl

end

/-- Input ports that differ in `adc_data` and `ts` alone give the same step, where the operations of the cycle that read either port
find the same low bits and the same timestamp. -/
theorem step_withPorts_congr (s : State) (x : Inputs) (d t : Half) (vs : List IV)
    (hdata : ∀ i ∈ decode (s.withPorts x vs).dv, i.readsData = true →
      lowBits s.params.adcW d = lowBits s.params.adcW x.adcData)
    (hts : ∀ i ∈ decode (s.withPorts x vs).dv, i.readsTs = true → t = x.ts) :
    step (s.withPorts x vs) = step (s.withPorts { x with adcData := d, ts := t } vs) := by
  have hsame : ∀ i ∈ decode (s.withPorts x vs).dv,
      (s.withPorts x vs).SameReads i (encodeIv { x with adcData := d, ts := t } :: vs) := fun i hi =>
    { ready := by rw [State.withPorts_withInputs]; simp
      data := fun hr => by rw [State.withPorts_withInputs]; simpa using hdata i hi hr
      ts := fun hr => by rw [State.withPorts_withInputs]; simpa using hts i hi hr }
  have hstrobes : (s.withPorts x vs).SameStrobes (encodeIv { x with adcData := d, ts := t } :: vs) := by
    constructor <;> rw [State.withPorts_withInputs] <;> simp
  have hstep := step_of_sameReads hstrobes (by simp) hsame
  rw [State.withPorts_withInputs] at hstep
  exact hstep.symm

/-- Outside sampling cycles no operation that fires reads `adc_data` or `ts` (R79). -/
theorem no_reads_of_not_sampling {s : State} (h : ¬ (s.rst = false ∧ s.convBusy = true ∧ s.adcDone = true)) :
    ∀ i ∈ decode s.dv, i.readsData = false ∧ i.readsTs = false := by
  rw [decode_dv]
  split_ifs <;> simp_all [Instr.readsData, Instr.readsTs]

end Machine

end Sys2Proof

namespace Sys2Proof.Proofs

open Sys2Proof.Machine

/-- Settles O59: an operation that reads `adc_data` finds the same low bits. -/
theorem unusedDataBitsAreIgnored : Obligations.UnusedDataBitsAreIgnored := by
  intro s x d vs h
  have hlow : lowBits s.params.adcW d = lowBits s.params.adcW x.adcData := congrArg (BitVec.ofNat 16) h
  exact step_withPorts_congr s x d x.ts vs (fun _ _ _ => hlow) fun _ _ _ => rfl

/-- Settles O60: outside SAMPLE_OPTO cycles no operation reads `ts`, and outside sampling cycles none reads `adc_data` either. -/
theorem inputsAreReadOnlyWhenSampling : Obligations.InputsAreReadOnlyWhenSampling := by
  intro s x d t vs
  refine ⟨fun hn => step_withPorts_congr s x x.adcData t vs (fun _ _ _ => rfl) fun i hi hr => ?_, fun hn => ?_⟩
  · have hw : i.wf = true := List.all_eq_true.1 (decode_cycleWf _).2 i hi
    rw [eq_sampleOpto_of_readsTs hw hr] at hi
    exact absurd hi hn
  · have hnone := no_reads_of_not_sampling (s := s.withPorts x vs) (by simpa using hn)
    refine step_withPorts_congr s x d t vs (fun i hi hr => ?_) fun i hi hr => ?_
    · simp [(hnone i hi).1] at hr
    · simp [(hnone i hi).2] at hr

end Sys2Proof.Proofs
end

section
/-! SUPPORT. What each output port shows in a cycle: which phase drives which port, what PERIOD_OBSERVE publishes, and what an operation
refuses before it drives anything (R72, R76, R77, R83). -/

namespace Sys2Proof

/-- The three publish ports together (R76). -/
def Outputs.publish (o : Outputs) : Bool × Bool × Half := (o.pubValid, o.pubKind, o.pubPeriod)

/-- What the publish ports show for an event (R76). -/
def encodePublish (e : PublishEvent) : Bool × Bool × Half := (encodePubValid e, encodePubKind e, encodePubPeriod e)

/-- Ports that show an event show a period only with a measurement, and a kind only with an event. -/
theorem publish_codes {o : Outputs} {e : PublishEvent} (h : o.publish = encodePublish e) :
    (¬ (o.pubValid = true ∧ o.pubKind = false) → o.pubPeriod = 0) ∧
      (o.pubKind = true → o.pubValid = true ∧ o.pubPeriod = 0) := by
  simp only [Outputs.publish, encodePublish, Prod.mk.injEq] at h
  obtain ⟨hvalid, hkind, hperiod⟩ := h
  rw [hvalid, hkind, hperiod]
  cases e <;> simp [encodePubValid, encodePubKind, encodePubPeriod]

/-- No outcome of TRY_SEND has the reserved code (R77, R83). -/
theorem encodeSend_ne_three (e : SendOutcome) : encodeSend e ≠ 3 := by
  intro h
  have hsome := decodeSend_encodeSend e
  rw [h, decodeSend_three] at hsome
  cases hsome

namespace Machine

/-! ## Refused indices (R83) -/

theorem trySend_refused {s : State} (h : 8 < s.txIdx.toNat) : trySend s = .refused .reservedTxIdx := by
  have h8 : s.txIdx ≠ 8 := by bv_omega
  have hlt : ¬ s.txIdx < 8 := by bv_omega
  rw [trySend, if_neg h8, if_neg hlt]

theorem drainOne_refused {s : State} (h : 8 < s.txIdx.toNat) (hr : s.txReady = true) :
    drainOne s = .refused .reservedTxIdx := by
  have h8 : ¬ (s.txIdx = 8 ∨ s.txReady = false) := by
    rw [hr]
    rintro (h8 | hf)
    · bv_omega
    · cases hf
  have hlt : ¬ s.txIdx < 8 := by bv_omega
  rw [drainOne, if_neg h8, if_neg hlt]

theorem trackerBroken_of_count {s : State} (h : s.params.win < s.count) : s.trackerBroken = some .reservedCount :=
  if_pos h

theorem trackerBroken_of_hidx {s : State} (hc : s.count ≤ s.params.win) (h : s.params.win ≤ s.hidx) :
    s.trackerBroken = some .reservedHidx := by
  rw [State.trackerBroken, if_neg (Nat.not_lt.2 hc), if_pos h]

theorem dcUpdate_refused {s : State} {r : Refusal} (h : s.trackerBroken = some r) : dcUpdate s = .refused r := by
  simp only [dcUpdate, h]

/-- SAMPLE_OPTO refuses what DC_UPDATE, its first part, refuses. -/
theorem sampleOpto_refused {s : State} {r : Refusal} (h : dcUpdate s = .refused r) : exec .sampleOpto s = .refused r := by
  simp only [exec, execSampleOpto, h, andThen_refused]

/-- SAMPLE_CURR refuses what TRY_SEND, its first part, refuses. -/
theorem sampleCurr_refused {s : State} {r : Refusal} (h : trySend s = .refused r) : exec .sampleCurr s = .refused r := by
  simp only [exec, execSampleCurr, h, andThen_refused]

/-! ## Which operations fire in a cycle with `rst = 0` -/

section
variable {s : State} (hr : s.rst = false) (h3 : s.seq ≠ 3)
include hr h3

theorem drainOne_mem_decode_iff : Instr.drainOne ∈ decode s.dv ↔ s.txReady = true ∧ s.txIdx ≠ 8 := by
  rw [decode_dv, txPending_eq_decide]
  split_ifs <;> simp_all

theorem convStart_mem_decode_iff : Instr.convStart ∈ decode s.dv ↔ s.convBusy = false := by
  rw [decode_dv]
  split_ifs <;> simp_all

theorem sampleCurr_mem_decode_iff :
    Instr.sampleCurr ∈ decode s.dv ↔ s.convBusy = true ∧ s.adcDone = true ∧ s.seq = 2 := by
  have hseq : s.seq = 2 ↔ s.seq ≠ 0 ∧ s.seq ≠ 1 := by bv_omega
  rw [decode_dv, hseq]
  split_ifs <;> simp_all

end

/-! ## The ports that a phase drives -/

/-- The ports after the transmitter phase: the registered ports, and `tx_we` with `tx_data` where a byte is pending and the sink is ready
(R72, R132). -/
theorem DrainPhase.out {s d : State} (h : DrainPhase s.beginCycle d) :
    d.out = { idleOutputs with
      pulseOut := s.pulseQ
      statusOut := s.statusQ
      adcCh := s.seq
      txWe := decide (s.txReady = true ∧ s.txIdx ≠ 8)
      txData := if s.txReady = true ∧ s.txIdx ≠ 8 then s.frame.read s.txIdx.toNat else 0 } := by
  obtain ⟨hlt, hr, rfl⟩ | ⟨hn, rfl⟩ := h
  · have hsend : s.txReady = true ∧ s.txIdx ≠ 8 := ⟨hr, fun h8 => absurd (h8 ▸ hlt : (8 : BitVec 4) < 8) (by decide)⟩
    rw [decide_eq_true hsend, if_pos hsend]
    rfl
  · have hnot : ¬ (s.txReady = true ∧ s.txIdx ≠ 8) := fun ⟨hr, h8⟩ =>
      hn.elim h8 fun hf => absurd (hr.symm.trans hf) (by decide)
    rw [decide_eq_false hnot, if_neg hnot]
    rfl

/-- The transmitter phase leaves the transmitter idle where it was idle or the last byte goes out (R132). -/
theorem DrainPhase.idle_iff {s d : State} (h : DrainPhase s d) :
    d.txIdx = 8 ↔ s.txIdx = 8 ∨ s.txIdx = 7 ∧ s.txReady = true := by
  obtain ⟨hlt, hr, rfl⟩ | ⟨hn, rfl⟩ := h
  · rw [State.sendByte_txIdx, hr]
    simp only [and_true]
    bv_omega
  · refine ⟨.inl, fun hor => hor.elim id fun ⟨h7, hr⟩ => ?_⟩
    rcases hn with hidle | hf
    · exact hidle
    · rw [hr] at hf; cases hf

/-- The outcome of TRY_SEND on its port (R131). -/
theorem trySend_out {s t : State} (h : trySend s = .next t) :
    t.out = { s.out with sendEv := if s.txIdx = 8 then encodeSend .accepted else encodeSend .rejected } := by
  obtain ⟨h8, rfl⟩ | ⟨hlt, rfl⟩ := trySend_next h
  · rw [if_pos h8]; rfl
  · have h8 : s.txIdx ≠ 8 := by bv_omega
    rw [if_neg h8]; rfl

theorem dcUpdate_out {s t : State} (h : dcUpdate s = .next t) : t.out = s.out := by
  obtain ⟨_, ⟨_, rfl⟩ | ⟨_, _, rfl⟩⟩ := dcUpdate_next h <;> rfl

/-- The ports after the sequencer phase (R72, R131, R152): the registered ports and the transmitter's as before it, `adc_start` with
CONV_START, `send_ev` with SAMPLE_CURR, and an event on the publish ports. -/
structure SequencerPorts (d u : State) : Prop where
  pulseOut : u.out.pulseOut = d.out.pulseOut
  statusOut : u.out.statusOut = d.out.statusOut
  txWe : u.out.txWe = d.out.txWe
  txData : u.out.txData = d.out.txData
  adcCh : u.out.adcCh = d.out.adcCh
  adcStart : u.out.adcStart = !d.convBusy
  sendEv : u.out.sendEv = if d.convBusy = true ∧ d.adcDone = true ∧ d.seq = 2 then
      (if d.txIdx = 8 then encodeSend .accepted else encodeSend .rejected) else encodeSend .none
  publish : ∃ e, u.out.publish = encodePublish e ∧ (e ≠ .none → d.convBusy = true ∧ d.adcDone = true ∧ d.seq = 0)

/-- The sequencer phase of a cycle in which so far only the transmitter has driven ports. -/
theorem SequencerPhase.ports {d u : State} (h : SequencerPhase d u) (hch : d.out.adcCh = d.seq)
    (hstart : d.out.adcStart = false) (hsend : d.out.sendEv = encodeSend .none)
    (hpub : d.out.publish = encodePublish .none) : SequencerPorts d u := by
  cases h with
  | start hb =>
    exact ⟨rfl, rfl, rfl, rfl, hch.symm, by simp [hb], by simp [hb, hsend], .none, hpub, nofun⟩
  | wait hb hd =>
    exact ⟨rfl, rfl, rfl, rfl, rfl, by simp [hb, hstart], by simp [hd, hsend], .none, hpub, nofun⟩
  | opto hb hd hs e he =>
    have hout : ({ (periodObserve (edgeDetect e)).takeEvent with convBusy := false } : State).out =
        (d.emitPublish (edgeDetect e).monitorEvent).out := by
      simp [dcUpdate_out he]
    constructor <;> rw [hout]
    case publish => exact ⟨_, rfl, fun _ => ⟨hb, hd, hs⟩⟩
    case adcStart => simp [hb, hstart]
    case sendEv => simp [hs, hsend]
    all_goals rfl
  | volt hb hd hs =>
    exact ⟨rfl, rfl, rfl, rfl, rfl, by simp [hb, hstart], by simp [hs, hsend], .none, hpub, nofun⟩
  | curr hb hd hs e he =>
    have hout : ({ e with statusQ := e.failLatch, seq := 0, convBusy := false } : State).out = e.out := rfl
    constructor <;> rw [hout, trySend_out he]
    case publish => exact ⟨.none, hpub, nofun⟩
    case adcStart => simp [hb, hstart]
    case sendEv => simp [hb, hd, hs]

/-- What the ports show after a step with `rst = 0`, in terms of the state before it (R72, R131, R132, R152). -/
structure StepPorts (s t : State) : Prop where
  pulseOut : t.out.pulseOut = s.pulseQ
  statusOut : t.out.statusOut = s.statusQ
  adcCh : t.out.adcCh = s.seq
  adcStart : t.out.adcStart = !s.convBusy
  txWe : t.out.txWe = decide (s.txReady = true ∧ s.txIdx ≠ 8)
  txData : t.out.txData = if t.out.txWe = true then s.frame.read s.txIdx.toNat else 0
  sendEv : t.out.sendEv = if s.convBusy = true ∧ s.adcDone = true ∧ s.seq = 2 then
      (if s.txIdx = 8 ∨ s.txIdx = 7 ∧ s.txReady = true then encodeSend .accepted else encodeSend .rejected)
    else encodeSend .none
  publish : ∃ e, t.out.publish = encodePublish e ∧ (e ≠ .none → s.takesOpto)

theorem step_ports {s t : State} (h : step s = .next t) (hr : s.rst = false) : StepPorts s t := by
  obtain ⟨hr', _⟩ | ⟨_, _, _, d, u, hd, hu, rfl⟩ := step_cases h
  · rw [hr] at hr'; cases hr'
  obtain ⟨hseq, hbusy, _⟩ := hd.same
  have hdone := hd.adcDone
  have hidle := hd.idle_iff
  simp only [State.beginCycle_seq, State.beginCycle_convBusy, State.beginCycle_adcDone, State.beginCycle_txIdx,
    State.beginCycle_txReady] at hseq hbusy hdone hidle
  have hports : SequencerPorts d u :=
    hu.ports (by rw [hd.out, hseq]) (by rw [hd.out]; rfl) (by rw [hd.out]; rfl) (by rw [hd.out]; rfl)
  obtain ⟨e, hpub, he⟩ := hports.publish
  have hwe : u.out.txWe = decide (s.txReady = true ∧ s.txIdx ≠ 8) := by rw [hports.txWe, hd.out]
  refine ⟨?_, ?_, ?_, ?_, hwe, ?_, ?_, e, hpub, fun hne => ?_⟩
  · rw [State.endCycle_out, hports.pulseOut, hd.out]
  · rw [State.endCycle_out, hports.statusOut, hd.out]
  · rw [State.endCycle_out, hports.adcCh, hd.out]
  · rw [State.endCycle_out, hports.adcStart, hbusy]
  · rw [State.endCycle_out, hwe, hports.txData, hd.out]; simp only [decide_eq_true_iff]
  · rw [State.endCycle_out, hports.sendEv, hbusy, hdone, hseq]; simp only [hidle]
  · rw [hbusy, hdone, hseq] at he
    exact (takesOpto_iff s).2 ⟨hr, he hne⟩

/-- A reset cycle shows the two registered ports and nothing else (R72, log 19). -/
theorem step_out_of_rst {s t : State} (h : step s = .next t) (hr : s.rst = true) :
    t.out = { idleOutputs with pulseOut := s.pulseQ, statusOut := s.statusQ } := by
  obtain ⟨_, rfl⟩ | ⟨hr', _⟩ := step_cases h
  · rfl
  · rw [hr] at hr'; cases hr'

/-! ## The event of a SAMPLE_OPTO cycle (R120) -/

theorem DrainPhase.frontEnd {s d : State} (h : DrainPhase s d) :
    d.inPeak = s.inPeak ∧ d.timedOut = s.timedOut ∧ d.prevTs = s.prevTs := by
  obtain ⟨_, _, rfl⟩ | ⟨_, rfl⟩ := h <;> exact ⟨rfl, rfl, rfl⟩

theorem dcUpdate_frontEnd {s t : State} (h : dcUpdate s = .next t) :
    t.inPeak = s.inPeak ∧ t.timedOut = s.timedOut ∧ t.prevTs = s.prevTs := by
  obtain ⟨_, ⟨_, rfl⟩ | ⟨_, _, rfl⟩⟩ := dcUpdate_next h <;> exact ⟨rfl, rfl, rfl⟩

/-- The detector fires exactly where it enters in-peak (R111). -/
theorem edgeFired_iff (s : State) : s.edgeFired = true ↔ s.inPeak = false ∧ s.nextInPeak = true := by
  unfold State.edgeFired State.nextInPeak
  cases s.inPeak <;> simp

/-- A SAMPLE_OPTO cycle publishes what PERIOD_OBSERVE makes of the cycle's edge and timestamp and of the monitor's registers before the
cycle (R120, R155). -/
theorem step_opto_publish {s t : State} (h : step s = .next t) (ho : s.takesOpto) :
    ∃ m : State, t.out.publish = encodePublish m.monitorEvent ∧ (m.wires.edge = true ↔ s.edgeNow) ∧
      m.timedOut = s.timedOut ∧ m.elapsed = tsdiff s.ts s.prevTs ∧
      (m.silent = true ↔ (tsdiff s.ts s.prevTs).toNat > s.params.timeout) := by
  rw [edgeNow_iff h ho]
  obtain ⟨d, e, hd, he, rfl⟩ := step_opto h ho
  obtain ⟨hpeak, htimed, hprev⟩ := hd.frontEnd
  obtain ⟨hpeak', htimed', hprev'⟩ := dcUpdate_frontEnd he
  have hm := dcUpdate_sameModel he
  obtain ⟨_, _, _, _, hdparams⟩ := hd.same
  have hparams : e.params = s.params := hm.1.trans hdparams
  have helapsed : (edgeDetect e).elapsed = tsdiff s.ts s.prevTs :=
    congrArg₂ tsdiff (hm.ts.trans hd.ts) (hprev'.trans hprev)
  refine ⟨edgeDetect e, ?_, ?_, htimed'.trans htimed, helapsed, ?_⟩
  · simp [Outputs.publish, encodePublish]
  · simp [edgeFired_iff, hpeak', hpeak]
  · rw [State.silent, helapsed, edgeDetect_params, hparams, decide_eq_true_iff]

theorem monitorEvent_of_edge {s : State} (he : s.wires.edge = true) :
    s.monitorEvent = if s.timedOut = true then .none else .measured s.elapsed := by
  simp [State.monitorEvent, he]

theorem monitorEvent_of_no_edge {s : State} (he : ¬ s.wires.edge = true) :
    s.monitorEvent = if s.silent = true ∧ s.timedOut = false then .timedOut else .none := by
  simp [State.monitorEvent, he]

/-- Source rules 1 and 2 on the ports: an edge publishes the period since the baseline, unless it ends a timeout (R120). -/
theorem step_publish_of_edge {s t : State} (h : step s = .next t) (he : s.edgeNow) :
    t.out.publish = encodePublish (if s.timedOut = true then .none else .measured (tsdiff s.ts s.prevTs)) := by
  obtain ⟨m, hpub, hedge, htimed, helapsed, _⟩ := step_opto_publish h he.1
  rw [hpub, monitorEvent_of_edge (hedge.2 he), htimed, helapsed]

/-- Source rules 3 and 4 on the ports: without an edge, silence of more than TIMEOUT ticks publishes a timeout, once (R120). -/
theorem step_publish_of_no_edge {s t : State} (h : step s = .next t) (ho : s.takesOpto) (he : ¬ s.edgeNow) :
    t.out.publish = encodePublish
      (if (tsdiff s.ts s.prevTs).toNat > s.params.timeout ∧ s.timedOut = false then .timedOut else .none) := by
  obtain ⟨m, hpub, hedge, htimed, _, hsilent⟩ := step_opto_publish h ho
  rw [hpub, monitorEvent_of_no_edge fun hm => he (hedge.1 hm), htimed]
  simp only [hsilent]

theorem StepPorts.publish_of_not_opto {s t : State} (h : StepPorts s t) (ho : ¬ s.takesOpto) :
    t.out.publish = encodePublish .none := by
  obtain ⟨e, hpub, he⟩ := h.publish
  rw [hpub, Classical.not_not.1 fun hne => ho (he hne)]

/-- With only the two registered ports showing, OV[33:2] is 0. -/
theorem encodeOv_registered (pulse status : Bool) :
    (encodeOv { idleOutputs with pulseOut := pulse, statusOut := status }).extractLsb' 2 32 = 0 := by
  cases pulse <;> cases status <;> rfl

end Machine

end Sys2Proof

namespace Sys2Proof.Proofs

open Sys2Proof.Machine

/-- Settles O29: each operation refuses by itself, and a composite one with its first part. -/
theorem reservedIndicesAreRefused : Obligations.ReservedIndicesAreRefused := by
  refine ⟨fun s h => ?_, fun s h => ?_, fun s hc h => ?_⟩
  · exact ⟨trySend_refused h, sampleCurr_refused (trySend_refused h), drainOne_refused h⟩
  · have hd := dcUpdate_refused (trackerBroken_of_count h)
    exact ⟨hd, sampleOpto_refused hd⟩
  · have hd := dcUpdate_refused (trackerBroken_of_hidx hc h)
    exact ⟨hd, sampleOpto_refused hd⟩

/-- Settles O41: every code driven is that of a channel, a publish event or an outcome of TRY_SEND. -/
theorem reservedCodesAreNeverDriven : Obligations.ReservedCodesAreNeverDriven := by
  intro s t h
  by_cases hr : s.rst = true
  · rw [step_out_of_rst h hr]
    exact ⟨(by decide : (0 : BitVec 2) ≠ 3), (by decide : (0 : BitVec 2) ≠ 3), nofun⟩
  · have hr' : s.rst = false := by simpa using hr
    have hports := step_ports h hr'
    obtain ⟨e, hpub, _⟩ := hports.publish
    refine ⟨hports.adcCh ▸ (step_next_legal h hr').1, ?_, (publish_codes hpub).2⟩
    rw [hports.sendEv]
    split_ifs <;> exact encodeSend_ne_three _

/-- Settles O40: the ports by phase, and PERIOD_OBSERVE's event by the rules of R120. -/
theorem outputPortsOfACycle : Obligations.OutputPortsOfACycle := by
  intro s t _ h
  by_cases hr : s.rst = true
  · rw [step_out_of_rst h hr]
    exact ⟨rfl, rfl, fun hr' => absurd (hr.symm.trans hr') (by decide), fun _ => encodeOv_registered _ _⟩
  have hr' : s.rst = false := by simpa using hr
  have h3 := (step_next_legal h hr').1
  have hports := step_ports h hr'
  obtain ⟨e, hpub, _⟩ := hports.publish
  refine ⟨hports.pulseOut, hports.statusOut, fun _ => ⟨hports.adcCh, ?start, ?txWe, hports.txData, fun ho => ?_,
    fun he ht => ?_, fun he ht => ?_, fun ho he hd ht => ?_, fun ho he hn => ?_, (publish_codes hpub).1, ?send⟩,
    fun h1 => absurd h1 hr⟩
  case start => rw [hports.adcStart, convStart_mem_decode_iff hr' h3, Bool.not_eq_true']
  case txWe => rw [hports.txWe, drainOne_mem_decode_iff hr' h3, decide_eq_true_iff]
  case send =>
    simp only [hports.sendEv, sampleCurr_mem_decode_iff hr' h3, ite_not]
    rfl
  · exact hports.publish_of_not_opto ho
  · exact (step_publish_of_edge h he).trans (by rw [if_pos ht]; rfl)
  · exact (step_publish_of_edge h he).trans (by rw [if_neg (by simp [ht])]; rfl)
  · exact (step_publish_of_no_edge h ho he).trans (by rw [if_pos ⟨hd, ht⟩]; rfl)
  · refine (step_publish_of_no_edge h ho he).trans ?_
    rw [if_neg fun ⟨hd, ht⟩ => hn.elim (fun hle => absurd hd (by omega)) fun h1 => absurd (ht.symm.trans h1) (by decide)]
    rfl

end Sys2Proof.Proofs
end

section
/-! SUPPORT. DC_UPDATE register by register, and the registers that only an optical sample reaches (R100, R102, R122). -/

namespace Sys2Proof.Machine

/-! ## What DC_UPDATE writes -/

/-- The index advances modulo WIN in either branch (R52). -/
theorem dcUpdate_hidx {s t : State} (h : dcUpdate s = .next t) : t.hidx = (s.hidx + 1) % s.params.win := by
  obtain ⟨_, ⟨_, rfl⟩ | ⟨_, _, rfl⟩⟩ := dcUpdate_next h <;> rfl

/-- A sample is counted until the window is full (R25). -/
theorem dcUpdate_count {s t : State} (h : dcUpdate s = .next t) : t.count = min (s.count + 1) s.params.win := by
  obtain ⟨_, ⟨hc, rfl⟩ | ⟨hc, _, rfl⟩⟩ := dcUpdate_next h
  · exact (min_eq_left hc).symm
  · exact hc.trans (min_eq_right (by omega)).symm

/-- The sample stands in the slot at `hidx`, and no other slot changes. -/
theorem dcUpdate_slots {s t : State} (hw : s.hist.wf = true) (h : dcUpdate s = .next t) :
    t.hist.read s.hidx = s.sample ∧ ∀ i, i ≠ s.hidx → t.hist.read i = s.hist.read i := by
  rw [(dcUpdate_memories h).1]
  exact ⟨Memory.read_write_same hw _ _, fun i hi => Memory.read_write_other hw hi _⟩

/-- Outside the tracker DC_UPDATE writes nothing, no port either. -/
theorem dcUpdate_frame {s t : State} (h : dcUpdate s = .next t) :
    t.out = s.out ∧ SameSequencer s t ∧ SameDetector s t ∧ SameMonitor s t ∧ SameOperands s t ∧ SameFrame s t ∧
      SameLatch s t ∧ SameModel s t := by
  obtain ⟨_, ⟨_, rfl⟩ | ⟨_, _, rfl⟩⟩ := dcUpdate_next h <;>
    exact ⟨rfl, ⟨rfl, rfl⟩, ⟨rfl, rfl⟩, ⟨rfl, rfl⟩, ⟨rfl, rfl⟩, ⟨rfl, fun _ => rfl⟩, ⟨rfl, rfl⟩, rfl, rfl, rfl⟩

/-! ## The registers of the optical path -/

/-- The registers of the tracker, the detector and the monitor together. -/
def State.opticalPath (s : State) : (Nat × Nat × Nat × Memory 16) × (Bool × Bool) × (Half × Bool) :=
  ((s.count, s.hidx, s.sum, s.hist), (s.inPeak, s.pulseQ), (s.prevTs, s.timedOut))

theorem same_of_opticalPath_eq {s t : State} (h : t.opticalPath = s.opticalPath) :
    SameTracker s t ∧ SameDetector s t ∧ SameMonitor s t := by
  simp only [State.opticalPath, Prod.mk.injEq] at h
  obtain ⟨⟨hcount, hhidx, hsum, hhist⟩, hdet, hmon⟩ := h
  exact ⟨⟨hcount, hhidx, hsum, fun _ => by rw [hhist]⟩, hdet, hmon⟩

theorem DrainPhase.opticalPath {s d : State} (h : DrainPhase s d) : d.opticalPath = s.opticalPath := by
  obtain ⟨_, _, rfl⟩ | ⟨_, rfl⟩ := h <;> rfl

theorem trySend_opticalPath {s t : State} (h : trySend s = .next t) : t.opticalPath = s.opticalPath := by
  obtain ⟨_, rfl⟩ | ⟨_, rfl⟩ := trySend_next h <;> rfl

/-- Only the branch of SAMPLE_OPTO, taken at `seq = 0` with a delivered conversion, writes the optical path. -/
theorem SequencerPhase.opticalPath {d u : State} (h : SequencerPhase d u)
    (hn : ¬ (d.convBusy = true ∧ d.adcDone = true ∧ d.seq = 0)) : u.opticalPath = d.opticalPath := by
  cases h with
  | start _ => rfl
  | wait _ _ => rfl
  | opto hb hd hs _ _ => exact absurd ⟨hb, hd, hs⟩ hn
  | volt _ _ _ => rfl
  | curr _ _ _ e he =>
    have hpath : e.opticalPath = d.opticalPath := trySend_opticalPath he
    exact hpath

/-- A cycle that is neither a reset nor takes an optical sample leaves the optical path alone (R206). -/
theorem step_opticalPath {s t : State} (h : step s = .next t) (hr : s.rst = false) (ho : ¬ s.takesOpto) :
    t.opticalPath = s.opticalPath := by
  obtain ⟨hr', _⟩ | ⟨_, _, _, d, u, hd, hu, rfl⟩ := step_cases h
  · rw [hr] at hr'; cases hr'
  obtain ⟨hseq, hbusy, _⟩ := hd.same
  have hn : ¬ (d.convBusy = true ∧ d.adcDone = true ∧ d.seq = 0) := by
    rw [hbusy, hd.adcDone, hseq]
    exact fun hc => ho ((takesOpto_iff s).2 ⟨hr, hc⟩)
  calc u.endCycle.opticalPath = u.opticalPath := rfl
    _ = d.opticalPath := hu.opticalPath hn
    _ = s.beginCycle.opticalPath := hd.opticalPath
    _ = s.opticalPath := rfl

/-- A cycle that takes an optical sample leaves the tracker as DC_UPDATE does (R100, R155). -/
theorem step_opto_tracker {s t : State} (hw : s.hist.wf = true) (h : step s = .next t) (ho : s.takesOpto) :
    t.hist.read s.hidx = s.sample ∧ t.hidx = (s.hidx + 1) % s.params.win ∧ t.count = min (s.count + 1) s.params.win := by
  obtain ⟨d, e, hd, he, rfl⟩ := step_opto h ho
  have hpath := hd.opticalPath
  simp only [State.opticalPath, Prod.mk.injEq] at hpath
  obtain ⟨⟨hcount, hhidx, _, hhist⟩, _, _⟩ := hpath
  obtain ⟨_, _, _, _, hparams⟩ := hd.same
  have hdw : d.hist.wf = true := hhist ▸ hw
  have hslot := (dcUpdate_slots hdw he).1
  have hnext := dcUpdate_hidx he
  have hcounted := dcUpdate_count he
  rw [hhidx, hd.sample] at hslot
  rw [hhidx, hparams] at hnext
  rw [hcount, hparams] at hcounted
  simpa using ⟨hslot, hnext, hcounted⟩

end Sys2Proof.Machine

namespace Sys2Proof.Proofs

open Sys2Proof.Machine

/-- Settles O18: the fill branch runs, and the slots and the frame are those of every DC_UPDATE. -/
theorem dcUpdateFillsTheWindow : Obligations.DcUpdateFillsTheWindow := by
  intro s hw hc hh
  have hrun := dcUpdate_fill hc hh
  obtain ⟨hslot, hother⟩ := dcUpdate_slots hw hrun
  exact ⟨_, hrun, rfl, rfl, rfl, rfl, hslot, hother, dcUpdate_frame hrun⟩

/-- Settles O19: the evicting branch runs, and its subtraction is exact because the sum covers the evicted sample. -/
theorem dcUpdateEvictsTheOldest : Obligations.DcUpdateEvictsTheOldest := by
  intro s hw hc hh ho
  have hrun := dcUpdate_evict hc hh ho
  obtain ⟨hslot, hother⟩ := dcUpdate_slots hw hrun
  refine ⟨_, hrun, rfl, rfl, ?_, rfl, hslot, hother, dcUpdate_frame hrun⟩
  rw [State.trackerEvict_sum, State.oldest]
  omega

/-- Settles O44: outside SAMPLE_OPTO cycles no phase writes the optical path or publishes; in one, DC_UPDATE runs. -/
theorem onlyOpticalSamplesReachTheFrontEnd : Obligations.OnlyOpticalSamplesReachTheFrontEnd := by
  intro s t hi h hr
  refine ⟨fun ho => ?_, step_opto_tracker hi.stored.hist_wf h⟩
  obtain ⟨htracker, hdetector, hmonitor⟩ := same_of_opticalPath_eq (step_opticalPath h hr ho)
  have hsilent : t.out.pubValid = false := congrArg Prod.fst ((step_ports h hr).publish_of_not_opto ho)
  exact ⟨htracker, hdetector, hmonitor, hsilent⟩

end Sys2Proof.Proofs
end

section
/-! SUPPORT. The window law: the tracker as a function of the samples since its reset (R100, R101). -/

namespace Sys2Proof

/-- The value of a sample on `adc_data`: its low ADC_W bits (R84). -/
def Params.sampleValue (p : Params) (x : Half) : Nat := (lowBits p.adcW x).toNat

namespace Machine

/-! ## The sum of the last samples -/

/-- The sum of the last `min k win` of `k` samples. -/
def windowSum (win : Nat) (xs : List Nat) : Nat := (xs.drop (xs.length - win)).sum

theorem windowMean_eq_div (win : Nat) (xs : List Nat) : windowMean win xs = windowSum win xs / min xs.length win := rfl

/-- While the window fills, every sample counts. -/
theorem windowSum_append_of_lt {win : Nat} {xs : List Nat} (h : xs.length < win) (x : Nat) :
    windowSum win (xs ++ [x]) = windowSum win xs + x := by
  have hold : xs.length - win = 0 := by omega
  have hnew : (xs ++ [x]).length - win = 0 := by
    rw [List.length_append, List.length_singleton]
    omega
  simp only [windowSum, hold, hnew, List.drop_zero, List.sum_append, List.sum_singleton]

/-- A full window holds its oldest sample and the ones after it. -/
theorem windowSum_eq_oldest_add {win : Nat} {xs : List Nat} (hlt : xs.length - win < xs.length) :
    windowSum win xs = xs[xs.length - win] + (xs.drop (xs.length - win + 1)).sum := by
  rw [windowSum, List.drop_eq_getElem_cons hlt, List.sum_cons]

/-- At capacity the new sample takes the place of the oldest. -/
theorem windowSum_append_of_le {win : Nat} {xs : List Nat} (h : win ≤ xs.length) (hlt : xs.length - win < xs.length)
    (x : Nat) : windowSum win (xs ++ [x]) = windowSum win xs - xs[xs.length - win] + x := by
  have hnew : (xs ++ [x]).length - win = xs.length - win + 1 := by
    rw [List.length_append, List.length_singleton]
    omega
  rw [windowSum_eq_oldest_add hlt, windowSum, hnew, List.drop_append_of_le_length (by omega), List.sum_append,
    List.sum_singleton, Nat.add_sub_cancel_left]

/-- Indices less than `win` apart have different slots. -/
theorem mod_ne_mod_of_near {win j k : Nat} (hlt : j < k) (hnear : k < j + win) : j % win ≠ k % win := fun heq =>
  have hj : j ∈ Finset.Ico j (j + win) := Finset.mem_Ico.2 (by omega)
  have hk : k ∈ Finset.Ico j (j + win) := Finset.mem_Ico.2 (by omega)
  absurd (Nat.mod_injOn_Ico j win hj hk heq) (by omega)

/-! ## The tracker after some samples -/

/-- The tracker after the samples `xs` since its reset: the last WIN of them are stored, sample `j` in slot `j` modulo WIN, and `sum`
is theirs. Slots that no sample has reached hold anything. -/
structure State.Tracks (s : State) (xs : List Nat) : Prop where
  win_pos : 1 ≤ s.params.win
  hist_wf : s.hist.wf = true
  count_eq : s.count = min xs.length s.params.win
  hidx_eq : s.hidx = xs.length % s.params.win
  sum_eq : s.sum = windowSum s.params.win xs
  slot_eq : ∀ (j : Nat) (hj : j < xs.length), xs.length ≤ j + s.params.win →
    (s.hist.read (j % s.params.win)).toNat = xs[j]

section
variable {s : State} {xs : List Nat} (h : s.Tracks xs)
include h

theorem State.Tracks.hidx_lt : s.hidx < s.params.win := h.hidx_eq ▸ Nat.mod_lt _ h.win_pos

/-- At capacity the slot to write next holds the oldest sample of the window. -/
theorem State.Tracks.oldest_eq (hfull : s.params.win ≤ xs.length) (hlt : xs.length - s.params.win < xs.length) :
    s.oldest.toNat = xs[xs.length - s.params.win] := by
  rw [State.oldest, h.hidx_eq, Nat.mod_eq_sub_mod hfull]
  exact h.slot_eq _ hlt (by omega)

/-- DC_UPDATE runs, and its new sum is that of the window moved on by one sample. -/
theorem State.Tracks.dcUpdate_sum :
    ∃ t, dcUpdate s = .next t ∧ t.sum = windowSum s.params.win (xs ++ [s.sample.toNat]) := by
  have hcount := h.count_eq
  by_cases hfull : s.params.win ≤ xs.length
  · have hlt : xs.length - s.params.win < xs.length := Nat.sub_lt (Nat.lt_of_lt_of_le h.win_pos hfull) h.win_pos
    have hold := h.oldest_eq hfull hlt
    have hcovers : s.oldest.toNat ≤ s.sum := by
      rw [hold, h.sum_eq, windowSum_eq_oldest_add hlt]
      exact Nat.le_add_right _ _
    refine ⟨_, dcUpdate_evict (by omega) h.hidx_lt hcovers, ?_⟩
    rw [State.trackerEvict_sum, hold, h.sum_eq, windowSum_append_of_le hfull hlt]
  · refine ⟨_, dcUpdate_fill (by omega) h.hidx_lt, ?_⟩
    rw [State.trackerFill_sum, h.sum_eq, windowSum_append_of_lt (by omega)]

/-- The slots of the window after DC_UPDATE: the sample in the one written, the others as they were. -/
theorem State.Tracks.dcUpdate_slot {t : State} (ht : dcUpdate s = .next t) (j : Nat)
    (hj : j < (xs ++ [s.sample.toNat]).length) (hin : xs.length + 1 ≤ j + s.params.win) :
    (t.hist.read (j % s.params.win)).toNat = (xs ++ [s.sample.toNat])[j] := by
  obtain ⟨hslot, hother⟩ := dcUpdate_slots h.hist_wf ht
  rw [h.hidx_eq] at hslot hother
  rcases Nat.lt_or_ge j xs.length with hlt | hge
  · rw [hother _ (mod_ne_mod_of_near hlt (by omega)), h.slot_eq j hlt (by omega), List.getElem_append_left hlt]
  · rw [List.length_append, List.length_singleton] at hj
    obtain rfl : j = xs.length := by omega
    rw [hslot, List.getElem_concat_length rfl]

/-- DC_UPDATE completes and has then tracked one sample more. -/
theorem State.Tracks.dcUpdate_tracks :
    ∃ t, dcUpdate s = .next t ∧ t.params = s.params ∧ t.Tracks (xs ++ [s.sample.toNat]) := by
  obtain ⟨t, ht, hsum⟩ := h.dcUpdate_sum
  have hparams : t.params = s.params := (dcUpdate_sameModel ht).1
  refine ⟨t, ht, hparams, ?_⟩
  constructor
  case hist_wf => exact (dcUpdate_memories ht).1 ▸ Memory.write_wf h.hist_wf
  all_goals rw [hparams]
  case win_pos => exact h.win_pos
  case count_eq =>
    rw [dcUpdate_count ht, h.count_eq, List.length_append, List.length_singleton]
    omega
  case hidx_eq => rw [dcUpdate_hidx ht, h.hidx_eq, Nat.mod_add_mod, List.length_append, List.length_singleton]
  case sum_eq => exact hsum
  case slot_eq =>
    intro j hj hin
    rw [List.length_append, List.length_singleton] at hin
    exact h.dcUpdate_slot ht j hj hin

end

/-- The estimate that DC_UPDATE hands on is the mean over the window it leaves. -/
theorem State.Tracks.dc_eq_windowMean {s t : State} {xs : List Nat} (h : t.Tracks xs) (ht : dcUpdate s = .next t) :
    t.wires.dc = windowMean t.params.win xs := by
  rw [dcUpdate_dc ht, windowMean_eq_div, h.sum_eq, h.count_eq]

/-- A reset tracker has tracked nothing, whatever its slots hold. -/
theorem State.Tracks.of_reset {s : State} (hwin : 1 ≤ s.params.win) (hw : s.hist.wf = true) (hc : s.count = 0)
    (hh : s.hidx = 0) (hs : s.sum = 0) : s.Tracks [] where
  win_pos := hwin
  hist_wf := hw
  count_eq := by simp [hc]
  hidx_eq := by simp [hh]
  sum_eq := by simp [hs, windowSum]
  slot_eq := nofun

/-! ## A sequence of samples -/

theorem State.withSample_sample_toNat (s : State) (x : Half) :
    (s.withSample x).sample.toNat = s.params.sampleValue x :=
  congrArg BitVec.toNat (State.withPorts_sample s ⟨false, true, false, x, 0⟩ [])

theorem State.Tracks.dcUpdate_withSample {s : State} {xs : List Nat} (h : s.Tracks xs) (x : Half) :
    ∃ t, exec .dcUpdate (s.withSample x) = .next t ∧ t.params = s.params ∧ t.Tracks (xs ++ [s.params.sampleValue x]) := by
  have hx : (s.withSample x).Tracks xs := { h with }
  obtain ⟨t, ht, hparams, htracks⟩ := hx.dcUpdate_tracks
  rw [State.withSample_sample_toNat] at htracks
  exact ⟨t, ht, hparams, htracks⟩

/-- The tracker completes on every sequence of samples and has then tracked them too. -/
theorem State.Tracks.feedTracker_tracks {s : State} {xs : List Nat} (h : s.Tracks xs) (ys : List Half) :
    ∃ t, feedTracker s ys = .next t ∧ t.params = s.params ∧ t.Tracks (xs ++ ys.map s.params.sampleValue) := by
  induction ys generalizing s xs with
  | nil => exact ⟨s, rfl, rfl, by simpa using h⟩
  | cons y ys ih =>
    obtain ⟨u, hu, hparams, hutracks⟩ := h.dcUpdate_withSample y
    obtain ⟨t, ht, hparams', htracks⟩ := ih hutracks
    rw [hparams, List.append_assoc] at htracks
    refine ⟨t, ?_, hparams'.trans hparams, htracks⟩
    rw [feedTracker, hu, andThen_next, ht]

end Machine

end Sys2Proof

namespace Sys2Proof.Proofs

open Sys2Proof.Machine

/-- Settles O42, by induction on the samples: after each, the tracker holds the last WIN of them and their sum. -/
theorem estimateIsMeanOfLastWindow : Obligations.EstimateIsMeanOfLastWindow := by
  intro s xs x hwin hw hc hh hs
  obtain ⟨t, ht, hparams, htracks⟩ := (State.Tracks.of_reset hwin hw hc hh hs).feedTracker_tracks xs
  obtain ⟨u, hu, hparams', hutracks⟩ := htracks.dcUpdate_withSample x
  refine ⟨t, u, ht, hu, ?_⟩
  rw [hutracks.dc_eq_windowMean hu, hparams', hparams, List.nil_append, List.map_append]
  rfl

end Sys2Proof.Proofs
end

section
/-! SUPPORT. The edge detector: its state table as a relation, the row that a SAMPLE_OPTO cycle follows, and what a run does between two
edges (R110 to R113). -/

namespace Sys2Proof

/-- The state table of R111, one constructor per row: at the signal `ac`, from the registers `peak` and `pulse` to their next values and
`edge_fired`. -/
inductive DetectorRow (p : Params) (ac : Int) : (peak pulse peak' pulse' edge : Bool) → Prop where
  | enter {pulse : Bool} (h : ac > p.highTh) : DetectorRow p ac false pulse true true true
  | stayOut {pulse : Bool} (h : ac ≤ p.highTh) : DetectorRow p ac false pulse false false false
  | exit {pulse : Bool} (h : ac < p.lowTh) : DetectorRow p ac true pulse false pulse false
  | stayIn {pulse : Bool} (h : ac ≥ p.lowTh) : DetectorRow p ac true pulse true pulse false

section
variable {p : Params} {ac : Int} {peak pulse peak' pulse' edge : Bool} (h : DetectorRow p ac peak pulse peak' pulse' edge)
include h

theorem DetectorRow.outside (hp : peak = false) :
    (ac > p.highTh → peak' = true ∧ pulse' = true ∧ edge = true) ∧
      (ac ≤ p.highTh → peak' = false ∧ pulse' = false ∧ edge = false) := by
  cases h with
  | enter habove => exact ⟨fun _ => ⟨rfl, rfl, rfl⟩, fun hle => absurd habove (not_lt.2 hle)⟩
  | stayOut hle => exact ⟨fun habove => absurd habove (not_lt.2 hle), fun _ => ⟨rfl, rfl, rfl⟩⟩
  | exit _ | stayIn _ => cases hp

theorem DetectorRow.inside (hp : peak = true) :
    (ac < p.lowTh → peak' = false ∧ pulse' = pulse ∧ edge = false) ∧
      (ac ≥ p.lowTh → peak' = true ∧ pulse' = pulse ∧ edge = false) := by
  cases h with
  | enter _ | stayOut _ => cases hp
  | exit hbelow => exact ⟨fun _ => ⟨rfl, rfl, rfl⟩, fun hge => absurd hbelow (not_lt.2 hge)⟩
  | stayIn hge => exact ⟨fun hbelow => absurd hbelow (not_lt.2 hge), fun _ => ⟨rfl, rfl, rfl⟩⟩

/-- Only the entry row raises the pulse (R113). -/
theorem DetectorRow.entry_of_rise (hlow : pulse = false) (hhigh : pulse' = true) : peak = false ∧ peak' = true := by
  cases h with
  | enter _ => exact ⟨rfl, rfl⟩
  | stayOut _ => cases hhigh
  | exit _ | stayIn _ => rw [hlow] at hhigh; cases hhigh

/-- Only the row that stays outside the peak drops the pulse (R113). -/
theorem DetectorRow.outside_of_fall (hhigh : pulse = true) (hlow : pulse' = false) : peak = false ∧ ac ≤ p.highTh := by
  cases h with
  | enter _ => cases hlow
  | stayOut hle => exact ⟨rfl, hle⟩
  | exit _ | stayIn _ => rw [hhigh] at hlow; cases hlow

/-- Only the exit row leaves the peak. -/
theorem DetectorRow.below_of_exit (hin : peak = true) (hout : peak' = false) : ac < p.lowTh := by
  cases h with
  | enter _ | stayOut _ => cases hin
  | exit hbelow => exact hbelow
  | stayIn _ => cases hout

end

namespace Machine

/-! ## The row of an optical sample -/

/-- EDGE_DETECT follows a row of the table at `ac = s - dc`. -/
theorem edgeDetect_row (s : State) :
    DetectorRow s.params s.acSignal s.inPeak s.pulseQ s.nextInPeak s.nextPulse s.edgeFired := by
  unfold State.nextInPeak State.nextPulse State.edgeFired State.aboveHigh State.belowLow
  cases s.inPeak with
  | false =>
    by_cases habove : s.acSignal > s.params.highTh
    · simpa [habove] using DetectorRow.enter habove
    · simpa [habove] using DetectorRow.stayOut (not_lt.1 habove)
  | true =>
    by_cases hbelow : s.acSignal < s.params.lowTh
    · simpa [hbelow] using DetectorRow.exit hbelow
    · simpa [hbelow] using DetectorRow.stayIn (not_lt.1 hbelow)

/-- Outside the detector's registers and wires EDGE_DETECT writes nothing, no port either. -/
theorem edgeDetect_unchanged (s : State) :
    (edgeDetect s).out = s.out ∧ SameSequencer s (edgeDetect s) ∧ SameTracker s (edgeDetect s) ∧
      SameMonitor s (edgeDetect s) ∧ SameOperands s (edgeDetect s) ∧ SameFrame s (edgeDetect s) ∧
      SameLatch s (edgeDetect s) ∧ SameModel s (edgeDetect s) :=
  ⟨rfl, ⟨rfl, rfl⟩, ⟨rfl, rfl, rfl, fun _ => rfl⟩, ⟨rfl, rfl⟩, ⟨rfl, rfl⟩, ⟨rfl, fun _ => rfl⟩, ⟨rfl, rfl⟩, rfl, rfl, rfl⟩

theorem dcNow_of_dcUpdate {s t : State} (h : dcUpdate s = .next t) : s.dcNow = t.wires.dc := by
  rw [State.dcNow, exec_dcUpdate, h]

/-- The estimate depends only on the tracker, the parameters and the sample. -/
theorem dcNow_congr {s d e : State} (htracker : SameTracker s d) (hparams : d.params = s.params)
    (hsample : d.sample = s.sample) (h : dcUpdate d = .next e) : s.dcNow = e.wires.dc := by
  obtain ⟨hcount, hhidx, hsum, hread⟩ := htracker
  have hold : d.oldest = s.oldest := by rw [State.oldest, State.oldest, hread, hhidx]
  have hrun := dcUpdate_next h
  rw [hhidx, hparams, hcount, hold, hsum] at hrun
  obtain ⟨hh, ⟨hc, rfl⟩ | ⟨hc, ho, rfl⟩⟩ := hrun
  · rw [dcNow_of_dcUpdate (dcUpdate_fill hc hh)]
    simp [hcount, hsum, hsample]
  · rw [dcNow_of_dcUpdate (dcUpdate_evict hc hh ho)]
    simp [hold, hsum, hsample, hparams]

/-- A cycle that takes an optical sample follows a row of the table at the cycle's own `ac` (R110, R155). -/
theorem step_opto_row {s t : State} (h : step s = .next t) (ho : s.takesOpto) :
    ∃ edge, DetectorRow s.params s.acNow s.inPeak s.pulseQ t.inPeak t.pulseQ edge := by
  obtain ⟨d, e, hd, he, rfl⟩ := step_opto h ho
  obtain ⟨htracker, ⟨hdpeak, hdpulse⟩, _⟩ := same_of_opticalPath_eq hd.opticalPath
  obtain ⟨_, _, _, _, hdparams⟩ := hd.same
  obtain ⟨_, _, ⟨hpeak, hpulse⟩, _, _, _, _, hmodel⟩ := dcUpdate_frame he
  have hparams : e.params = s.params := hmodel.1.trans hdparams
  have hdc : s.dcNow = e.wires.dc := dcNow_congr htracker hdparams hd.sample he
  have hac : e.acSignal = s.acNow := by
    rw [State.acSignal, State.acNow, hdc, hmodel.sample, hd.sample, State.beginCycle_sample]
  have hrow := edgeDetect_row e
  rw [hparams, hac, hpeak.trans hdpeak, hpulse.trans hdpulse] at hrow
  exact ⟨_, by simpa using hrow⟩

/-! ## The detector between cycles -/

/-- A cycle that is neither a reset nor takes an optical sample leaves the detector alone (R206). -/
theorem step_sameDetector {s t : State} (h : step s = .next t) (hr : s.rst = false) (ho : ¬ s.takesOpto) :
    SameDetector s t := by
  obtain ⟨_, hdetector, _⟩ := same_of_opticalPath_eq (step_opticalPath h hr ho)
  exact hdetector

/-- Only an optical sample with `ac < LOW_TH` leaves the peak, where no reset does (R111, third row). -/
theorem exit_of_step {s t : State} (h : step s = .next t) (hr : s.rst = false) (hin : s.inPeak = true)
    (hout : t.inPeak = false) : s.takesOpto ∧ s.acNow < (s.params.lowTh : Int) := by
  by_cases ho : s.takesOpto
  · obtain ⟨_, hrow⟩ := step_opto_row h ho
    exact ⟨ho, hrow.below_of_exit hin hout⟩
  · obtain ⟨hsame, _⟩ := step_sameDetector h hr ho
    rw [hsame, hin] at hout
    cases hout

theorem runN_add (m n : Nat) (s : State) : runN (m + n) s = andThen (runN m s) (runN n) := by
  induction m generalizing s with
  | zero => rw [Nat.zero_add]; rfl
  | succ m ih =>
    rw [Nat.succ_add, runN, runN, andThen_assoc]
    exact congrArg (andThen (step s)) (funext ih)

/-- A run without reset that starts in the peak and ends outside it passes an exit sample. -/
theorem exit_of_run {n : Nat} {s b : State} (hrun : runN n s = .next b) (hr : resetFree n s) (hin : s.inPeak = true)
    (hout : b.inPeak = false) :
    ∃ (k : Nat) (c : State), k < n ∧ runN k s = .next c ∧ c.takesOpto ∧ c.inPeak = true ∧
      c.acNow < (c.params.lowTh : Int) := by
  induction n generalizing s with
  | zero =>
    cases hrun
    rw [hin] at hout
    cases hout
  | succ n ih =>
    obtain ⟨t, ht, hrest⟩ := andThen_eq_next_iff.1 hrun
    obtain ⟨hrst, hfree⟩ := hr
    cases htin : t.inPeak with
    | false =>
      obtain ⟨ho, hbelow⟩ := exit_of_step ht hrst hin htin
      exact ⟨0, s, Nat.succ_pos n, rfl, ho, hin, hbelow⟩
    | true =>
      obtain ⟨k, c, hk, hc, hexit⟩ := ih hrest (hfree t ht) htin
      exact ⟨k + 1, c, Nat.succ_lt_succ hk, by rw [runN, ht, andThen_next, hc], hexit⟩

end Machine

end Sys2Proof

namespace Sys2Proof.Proofs

open Sys2Proof.Machine

/-- Settles O20: the next registers and the edge stand in a row of the table. -/
theorem edgeDetectFollowsStateTable : Obligations.EdgeDetectFollowsStateTable := by
  intro s
  have hrow := edgeDetect_row s
  exact ⟨edgeDetect s, rfl, rfl, rfl, fun hp => (hrow.outside hp).1, fun hp => (hrow.outside hp).2,
    fun hp => (hrow.inside hp).1, fun hp => (hrow.inside hp).2, edgeDetect_unchanged s⟩

/-- Settles O47: outside optical samples the pulse keeps its level, and in one it follows a row of the table. -/
theorem pulseRisesAtEntryAndFallsAfterExit : Obligations.PulseRisesAtEntryAndFallsAfterExit := by
  intro s t _ h hr
  by_cases ho : s.takesOpto
  · obtain ⟨_, hrow⟩ := step_opto_row h ho
    exact ⟨fun hlow hhigh => (edgeNow_iff h ho).2 (hrow.entry_of_rise hlow hhigh),
      fun hhigh hlow => ⟨ho, hrow.outside_of_fall hhigh hlow⟩⟩
  · obtain ⟨_, hsame⟩ := step_sameDetector h hr ho
    rw [hsame]
    exact ⟨fun hlow hhigh => absurd (hlow.symm.trans hhigh) (by decide),
      fun hhigh hlow => absurd (hlow.symm.trans hhigh) (by decide)⟩

/-- Settles O46: the first edge leaves the detector in the peak and the second starts outside it, so the run between them passes an exit. -/
theorem noChatterBetweenEdges : Obligations.NoChatterBetweenEdges := by
  intro s a b i j hij _ ha hb ⟨_, _, t, hat, htin⟩ ⟨_, hbout, _⟩ hfree
  obtain ⟨n, rfl⟩ : ∃ n, j = (i + 1) + n := Nat.exists_eq_add_of_le hij
  have hit : runN (i + 1) s = .next t := by rw [runN_add, ha, andThen_next, runN, hat]; rfl
  have htb : runN n t = .next b := by rwa [runN_add, hit, andThen_next] at hb
  rw [show i + 1 + n - i = n + 1 by omega] at hfree
  obtain ⟨k, c, hk, hc, hexit⟩ := exit_of_run htb (hfree.2 t hat) htin hbout
  exact ⟨i + 1 + k, c, by omega, by omega, by rw [runN_add, hit, andThen_next, hc], hexit⟩

end Sys2Proof.Proofs
end

section
/-! SUPPORT. The period monitor: the source's four rules as a relation, the rule that a SAMPLE_OPTO cycle follows, and what a run without
an edge leaves of the monitor (R120 to R122). -/

namespace Sys2Proof.Machine

/-- The source's four rules of R120, one constructor per rule: from the sample's `edge` and the register `timed_out`, to the next `prev_ts`,
the next `timed_out` and the event. The sample is taken at `now`, and the baseline before it is `base`. -/
inductive MonitorRule (timeout : Nat) (now base : Half) : (edge timedOut : Bool) → (base' : Half) → (timedOut' : Bool) →
    (event : PublishEvent) → Prop where
  | wake : MonitorRule timeout now base true true now false .none
  | measure : MonitorRule timeout now base true false now false (.measured (tsdiff now base))
  | expire (h : (tsdiff now base).toNat > timeout) : MonitorRule timeout now base false false now true .timedOut
  | stay {timedOut : Bool} (h : (tsdiff now base).toNat ≤ timeout ∨ timedOut = true) :
      MonitorRule timeout now base false timedOut base timedOut .none

section
variable {timeout : Nat} {now base base' : Half} {edge timedOut timedOut' : Bool} {event : PublishEvent}
  (h : MonitorRule timeout now base edge timedOut base' timedOut' event)
include h

/-- An edge moves the baseline to the sample and clears `timed_out`; it measures unless it ends a timeout (source rules 1 and 2). -/
theorem MonitorRule.of_edge (he : edge = true) :
    (timedOut = true → timedOut' = false ∧ base' = now ∧ event = .none) ∧
      (timedOut = false → timedOut' = false ∧ base' = now ∧ event = .measured (tsdiff now base)) := by
  cases h with
  | wake => exact ⟨fun _ => ⟨rfl, rfl, rfl⟩, nofun⟩
  | measure => exact ⟨nofun, fun _ => ⟨rfl, rfl, rfl⟩⟩
  | expire _ | stay _ => cases he

/-- Without an edge the monitor acts only on a silence of more than TIMEOUT ticks, and once (source rules 3 and 4). -/
theorem MonitorRule.of_no_edge (he : edge = false) :
    ((tsdiff now base).toNat > timeout → timedOut = false → timedOut' = true ∧ base' = now ∧ event = .timedOut) ∧
      ((tsdiff now base).toNat ≤ timeout ∨ timedOut = true → timedOut' = timedOut ∧ base' = base ∧ event = .none) := by
  cases h with
  | wake | measure => cases he
  | expire hgt =>
    exact ⟨fun _ _ => ⟨rfl, rfl, rfl⟩, fun hn => hn.elim (fun hle => absurd hgt (not_lt.2 hle)) nofun⟩
  | stay hn =>
    refine ⟨fun hgt ht => ?_, fun _ => ⟨rfl, rfl, rfl⟩⟩
    rcases hn with hle | ht'
    · exact absurd hgt (not_lt.2 hle)
    · rw [ht] at ht'; cases ht'

end

/-! ## The rule of an optical sample -/

/-- PERIOD_OBSERVE follows one of the four rules, on the edge that was handed on. -/
theorem periodObserve_rule (s : State) :
    MonitorRule s.params.timeout s.ts s.prevTs s.wires.edge s.timedOut s.nextPrevTs s.nextTimedOut s.monitorEvent := by
  unfold State.nextPrevTs State.nextTimedOut State.monitorEvent State.silent State.elapsed
  cases s.wires.edge with
  | true =>
    cases s.timedOut with
    | true => simpa using MonitorRule.wake
    | false => simpa using MonitorRule.measure
  | false =>
    cases s.timedOut with
    | true => simpa using MonitorRule.stay (.inr rfl)
    | false =>
      by_cases hgt : (tsdiff s.ts s.prevTs).toNat > s.params.timeout
      · simpa [hgt] using MonitorRule.expire hgt
      · simpa [hgt] using MonitorRule.stay (.inl (not_lt.1 hgt))

/-- Outside the monitor's registers, the publish ports and the event handed on, PERIOD_OBSERVE writes nothing. -/
theorem periodObserve_unchanged (s : State) :
    SameSequencer s (periodObserve s) ∧ SameTracker s (periodObserve s) ∧ SameDetector s (periodObserve s) ∧
      SameOperands s (periodObserve s) ∧ SameFrame s (periodObserve s) ∧ SameLatch s (periodObserve s) ∧
      SameModel s (periodObserve s) :=
  ⟨⟨rfl, rfl⟩, ⟨rfl, rfl, rfl, fun _ => rfl⟩, ⟨rfl, rfl⟩, ⟨rfl, rfl⟩, ⟨rfl, fun _ => rfl⟩, ⟨rfl, rfl⟩, rfl, rfl, rfl⟩

/-- A cycle that takes an optical sample follows one of the four rules on the cycle's own edge, timestamp and registers (R155). -/
theorem step_opto_rule {s t : State} (h : step s = .next t) (ho : s.takesOpto) :
    ∃ edge event, (edge = true ↔ s.edgeNow) ∧
      MonitorRule s.params.timeout s.ts s.prevTs edge s.timedOut t.prevTs t.timedOut event := by
  rw [edgeNow_iff h ho]
  obtain ⟨d, e, hd, he, rfl⟩ := step_opto h ho
  obtain ⟨hdpeak, hdtimed, hdprev⟩ := hd.frontEnd
  obtain ⟨hpeak, htimed, hprev⟩ := dcUpdate_frontEnd he
  obtain ⟨_, _, _, _, hdparams⟩ := hd.same
  have hmodel := dcUpdate_sameModel he
  have hparams : e.params = s.params := hmodel.1.trans hdparams
  have hts : (edgeDetect e).ts = s.ts := hmodel.ts.trans hd.ts
  have hrule := periodObserve_rule (edgeDetect e)
  rw [hts, edgeDetect_params, hparams, edgeDetect_prevTs, hprev.trans hdprev, edgeDetect_timedOut,
    htimed.trans hdtimed] at hrule
  refine ⟨e.edgeFired, _, ?_, by simpa using hrule⟩
  simp [edgeFired_iff, hpeak, hdpeak]

/-- The sample that finds the silence longer than TIMEOUT publishes TimedOut and sets `timed_out` (source rule 3). -/
theorem step_expires {s t : State} (h : step s = .next t) (ho : s.takesOpto) (he : ¬ s.edgeNow) (ht : s.timedOut = false)
    (hgt : (tsdiff s.ts s.prevTs).toNat > s.params.timeout) :
    t.out.pubValid = true ∧ t.out.pubKind = true ∧ t.timedOut = true := by
  obtain ⟨edge, event, hedge, hrule⟩ := step_opto_rule h ho
  have hno : edge = false := Bool.eq_false_iff.2 fun hm => he (hedge.1 hm)
  obtain ⟨hset, _⟩ := (hrule.of_no_edge hno).1 hgt ht
  have hpub := step_publish_of_no_edge h ho he
  rw [if_pos ⟨hgt, ht⟩] at hpub
  exact ⟨congrArg Prod.fst hpub, congrArg (·.2.1) hpub, hset⟩

/-- A cycle that starts with `timed_out = 1` publishes nothing, with an edge or without (source rules 1 and 4). -/
theorem step_publish_of_timedOut {s t : State} (h : step s = .next t) (hr : s.rst = false) (ht : s.timedOut = true) :
    t.out.publish = encodePublish .none := by
  by_cases ho : s.takesOpto
  · by_cases he : s.edgeNow
    · rw [step_publish_of_edge h he, if_pos ht]
    · rw [step_publish_of_no_edge h ho he, if_neg (by simp [ht])]
  · exact (step_ports h hr).publish_of_not_opto ho

/-! ## Silence -/

/-- The cycle from `c` passes in silence for the monitor as it stands in `s`: no reset, no edge, and no sample more than TIMEOUT ticks
after the baseline of `s`, unless `s` has timed out already. -/
structure State.SilentCycle (s c : State) : Prop where
  no_reset : c.rst = false
  no_edge : ¬ c.edgeNow
  within : c.takesOpto → (tsdiff c.ts s.prevTs).toNat ≤ s.params.timeout ∨ s.timedOut = true

theorem State.SilentCycle.of_sameMonitor {s c : State} (h : s.SilentCycle c) (hsame : SameMonitor s c)
    (hparams : c.params = s.params) : c.SilentCycle c := by
  obtain ⟨hprev, htimed⟩ := hsame
  refine ⟨h.no_reset, h.no_edge, ?_⟩
  rw [hprev, hparams, htimed]
  exact h.within

/-- A silent cycle leaves the monitor alone and publishes nothing: no sample is taken, or source rule 4 applies (R120, R122). -/
theorem step_of_silent {c d : State} (h : step c = .next d) (hq : c.SilentCycle c) :
    SameMonitor c d ∧ d.out.pubValid = false := by
  by_cases ho : c.takesOpto
  · obtain ⟨edge, event, hedge, hrule⟩ := step_opto_rule h ho
    have hno : edge = false := Bool.eq_false_iff.2 fun hm => hq.no_edge (hedge.1 hm)
    obtain ⟨htimed, hprev, _⟩ := (hrule.of_no_edge hno).2 (hq.within ho)
    have hnot : ¬ ((tsdiff c.ts c.prevTs).toNat > c.params.timeout ∧ c.timedOut = false) := by
      rintro ⟨hgt, ht⟩
      exact (hq.within ho).elim (not_le.2 hgt) (by simp [ht])
    have hpub := step_publish_of_no_edge h ho hq.no_edge
    rw [if_neg hnot] at hpub
    exact ⟨⟨hprev, htimed⟩, congrArg Prod.fst hpub⟩
  · obtain ⟨_, _, hsame⟩ := same_of_opticalPath_eq (step_opticalPath h hq.no_reset ho)
    exact ⟨hsame, congrArg Prod.fst ((step_ports h hq.no_reset).publish_of_not_opto ho)⟩

/-! ## Runs -/

/-- What holds at the start of a run and is kept by each of its steps holds at its end. -/
theorem runN_induction {P : State → Prop} {n : Nat} {s u : State} (hrun : runN n s = .next u) (hstart : P s)
    (hstep : ∀ k c d, k < n → runN k s = .next c → step c = .next d → P c → P d) : P u := by
  induction n generalizing u with
  | zero => cases hrun; exact hstart
  | succ n ih =>
    rw [runN_add] at hrun
    obtain ⟨c, hc, hlast⟩ := andThen_eq_next_iff.1 hrun
    obtain ⟨d, hd, hend⟩ := andThen_eq_next_iff.1 hlast
    cases hend
    exact hstep n c u (Nat.lt_succ_self n) hc hd
      (ih hc fun k c d hk => hstep k c d (Nat.lt_succ_of_lt hk))

/-- No cycle of a reset-free run has `rst = 1`. -/
theorem rst_of_resetFree {n k : Nat} {s c : State} (hfree : resetFree n s) (hk : k < n) (hrun : runN k s = .next c) :
    c.rst = false := by
  induction k generalizing n s with
  | zero =>
    obtain ⟨n, rfl⟩ := Nat.exists_eq_succ_of_ne_zero (Nat.ne_of_gt hk)
    cases hrun
    exact hfree.1
  | succ k ih =>
    obtain ⟨n, rfl⟩ := Nat.exists_eq_succ_of_ne_zero (Nat.ne_zero_of_lt hk)
    obtain ⟨t, ht, hrest⟩ := andThen_eq_next_iff.1 hrun
    exact ih (hfree.2 t ht) (Nat.lt_of_succ_lt_succ hk) hrest

/-- A run of silent cycles leaves the monitor and the parameters as they were. -/
theorem sameMonitor_of_silent_run {n : Nat} {s u : State} (hrun : runN n s = .next u)
    (hq : ∀ k c, k < n → runN k s = .next c → s.SilentCycle c) : SameMonitor s u ∧ u.params = s.params := by
  refine runN_induction (P := fun c => SameMonitor s c ∧ c.params = s.params) hrun ⟨⟨rfl, rfl⟩, rfl⟩ ?_
  intro k c d hk hc hd ⟨hsame, hparams⟩
  obtain ⟨⟨hprev, htimed⟩, _⟩ := step_of_silent hd ((hq k c hk hc).of_sameMonitor hsame hparams)
  exact ⟨⟨hprev.trans hsame.1, htimed.trans hsame.2⟩, (step_model hd).1.trans hparams⟩

end Sys2Proof.Machine

namespace Sys2Proof.Proofs

open Sys2Proof.Machine

/-- Settles O21: the next registers and the event stand in one of the four rules. -/
theorem periodObserveFollowsFourRules : Obligations.PeriodObserveFollowsFourRules := by
  intro s
  have hrule := periodObserve_rule s
  exact ⟨periodObserve s, rfl, rfl, fun he => (hrule.of_edge he).1, fun he => (hrule.of_edge he).2,
    fun he => (hrule.of_no_edge he).1, fun he => (hrule.of_no_edge he).2, rfl, periodObserve_unchanged s⟩

/-- Settles O48: silent cycles carry the monitor from `s` to `u` and from `v` to `w` unchanged; the sample at `u` expires, and from then
on `timed_out = 1` holds TimedOut back. -/
theorem oneTimeoutPerSilence : Obligations.OneTimeoutPerSilence := by
  intro s u v n _ ht hfree hu hv hedge hwithin ho hgt
  have hsilent : ∀ k c, k < n → runN k s = .next c → s.SilentCycle c := fun k c hk hc =>
    ⟨rst_of_resetFree hfree (by omega) hc, hedge k c hk.le hc, fun hoc => .inl (hwithin k c hk hc hoc)⟩
  obtain ⟨⟨hprev, htimed⟩, hparams⟩ := sameMonitor_of_silent_run hu hsilent
  have hexpired := step_expires hv ho (hedge n u le_rfl hu) (htimed.trans ht) (by rwa [hprev, hparams])
  have ⟨_, _, hset⟩ := hexpired
  refine ⟨hexpired, fun k c d hk hc hd => ?_, fun m w x hfree' hw hx hedge' hpub => ?_⟩
  · obtain ⟨hsame, hparams'⟩ := sameMonitor_of_silent_run hc fun j b hj => hsilent j b (hj.trans hk)
    exact (step_of_silent hd ((hsilent k c hk hc).of_sameMonitor hsame hparams')).2
  · have hsilent' : ∀ k c, k < m → runN k v = .next c → v.SilentCycle c := fun k c hk hc =>
      ⟨rst_of_resetFree hfree' (by omega) hc, hedge' k c hk hc, fun _ => .inr hset⟩
    obtain ⟨⟨_, hkept⟩, _⟩ := sameMonitor_of_silent_run hw hsilent'
    have hnone := step_publish_of_timedOut hx (rst_of_resetFree hfree' (Nat.lt_succ_self m) hw) (hkept.trans hset)
    exact absurd (hpub.1.symm.trans (congrArg Prod.fst hnone)) (by decide)

end Sys2Proof.Proofs
end

section
/-! SUPPORT. The transmitter's operations: the bytes of a frame, the frame buffer as a list of bytes, and what TRY_SEND and DRAIN_ONE do
where `tx_idx` allows each (R130 to R132, R135). -/

namespace Sys2Proof

/-! ## The bytes of a field (R55, R135) -/

theorem lowByte_toNat (v : Half) : (lowByte v).toNat = v.toNat % 256 := by
  simp [lowByte]

theorem highByte_toNat (v : Half) : (highByte v).toNat = v.toNat / 256 := by
  have hv := v.isLt
  simp only [highByte, BitVec.extractLsb'_toNat, Nat.shiftRight_eq_div_pow]
  omega

/-- A field is its low byte and 256 times its high byte. -/
theorem toNat_eq_bytes (v : Half) : v.toNat = (lowByte v).toNat + 256 * (highByte v).toNat := by
  rw [lowByte_toNat, highByte_toNat]
  omega

/-- A receiver reads back the field whose two bytes were sent. -/
theorem halfOfBytes_bytes (v : Half) : halfOfBytes (lowByte v) (highByte v) = v := by
  refine BitVec.eq_of_toNat_eq ?_
  have hv := toNat_eq_bytes v
  rw [halfOfBytes, append_toNat]
  omega

/-- The receiver's fields of an encoded frame are the encoded ones (R135). -/
theorem decodeFrame_encodeFrame (h : Byte) (f : FrameFields) : decodeFrame (encodeFrame h f) = some f := by
  simp only [encodeFrame, decodeFrame, halfOfBytes_bytes]

namespace Machine

/-! ## The frame buffer as a list of bytes -/

theorem Memory.getElem_readFrom {w : Nat} (m : Memory w) (k n i : Nat) (hi : i < (m.readFrom k n).length) :
    (m.readFrom k n)[i] = m.read (k + i) := by
  induction n generalizing k i with
  | zero => simp [Memory.readFrom] at hi
  | succ n ih =>
    cases i with
    | zero => rfl
    | succ i => simp [Memory.readFrom, ih, Nat.add_assoc, Nat.add_comm 1 i]

/-- What a run of writes stored is what a run of reads gives. -/
theorem Memory.readFrom_writeFrom {w : Nat} {m : Memory w} (h : m.wf = true) (k : Nat) (vs : List (BitVec w)) :
    (m.writeFrom k vs).readFrom k vs.length = vs := by
  refine List.ext_getElem (Memory.readFrom_length _ _ _) fun i hi hi' => ?_
  rw [Memory.getElem_readFrom, Memory.read_writeFrom h, if_pos (by omega), Nat.add_sub_cancel_left,
    List.getD_eq_getElem _ _ hi']

/-- After an accept the buffer holds the whole frame (R131). -/
theorem acceptFrame_readFrom {s : State} (h : s.frame.wf = true) :
    s.acceptFrame.frame.readFrom 0 8 = encodeFrame s.params.header s.frameFields :=
  Memory.readFrom_writeFrom h 0 (encodeFrame s.params.header s.frameFields)

/-- An accept writes bytes 0 to 7 only (R53). -/
theorem acceptFrame_read_beyond {s : State} (h : s.frame.wf = true) {i : Nat} (hi : 8 ≤ i) :
    s.acceptFrame.frame.read i = s.frame.read i := by
  rw [State.acceptFrame_frame, Memory.read_writeFrom h, encodeFrame_length, if_neg (by omega)]

/-! ## Where each branch runs -/

theorem trySend_of_idle {s : State} (h : s.txIdx = 8) : trySend s = .next s.acceptFrame := if_pos h

theorem trySend_of_pending {s : State} (h : s.txIdx.toNat < 8) : trySend s = .next s.rejectFrame := by
  have h8 : s.txIdx ≠ 8 := by bv_omega
  have hlt : s.txIdx < 8 := by bv_omega
  rw [trySend, if_neg h8, if_pos hlt]

theorem drainOne_of_pending {s : State} (h : s.txIdx.toNat < 8) (hr : s.txReady = true) :
    drainOne s = .next s.sendByte := by
  have h8 : s.txIdx ≠ 8 := by bv_omega
  have hlt : s.txIdx < 8 := by bv_omega
  rw [drainOne, if_neg (not_or.2 ⟨h8, by simp [hr]⟩), if_pos hlt]

/-! ## What they leave alone -/

/-- TRY_SEND writes only the frame buffer, its index, the latch, its port and its wires. -/
theorem trySend_unchanged {s t : State} (h : trySend s = .next t) :
    SameSequencer s t ∧ SameTracker s t ∧ SameDetector s t ∧ SameMonitor s t ∧ SameOperands s t ∧ SameModel s t := by
  obtain ⟨_, rfl⟩ | ⟨_, rfl⟩ := trySend_next h <;>
    exact ⟨⟨rfl, rfl⟩, ⟨rfl, rfl, rfl, fun _ => rfl⟩, ⟨rfl, rfl⟩, ⟨rfl, rfl⟩, ⟨rfl, rfl⟩, rfl, rfl, rfl⟩

/-- DRAIN_ONE writes only the index and the transmitter's ports. -/
theorem drainOne_unchanged {s t : State} (h : drainOne s = .next t) :
    t.frame = s.frame ∧ t.wires = s.wires ∧ SameSequencer s t ∧ SameTracker s t ∧ SameDetector s t ∧ SameMonitor s t ∧
      SameOperands s t ∧ SameLatch s t ∧ SameModel s t := by
  obtain ⟨_, rfl⟩ | ⟨_, _, rfl⟩ := drainOne_next h <;>
    exact ⟨rfl, rfl, ⟨rfl, rfl⟩, ⟨rfl, rfl, rfl, fun _ => rfl⟩, ⟨rfl, rfl⟩, ⟨rfl, rfl⟩, ⟨rfl, rfl⟩, ⟨rfl, rfl⟩, rfl, rfl, rfl⟩

/-- FRAME_ENCODE writes only its wires. -/
theorem frameEncode_unchanged (s : State) :
    (frameEncode s).out = s.out ∧ SameSequencer s (frameEncode s) ∧ SameTracker s (frameEncode s) ∧
      SameDetector s (frameEncode s) ∧ SameMonitor s (frameEncode s) ∧ SameOperands s (frameEncode s) ∧
      SameFrame s (frameEncode s) ∧ SameLatch s (frameEncode s) ∧ SameModel s (frameEncode s) :=
  ⟨rfl, ⟨rfl, rfl⟩, ⟨rfl, rfl, rfl, fun _ => rfl⟩, ⟨rfl, rfl⟩, ⟨rfl, rfl⟩, ⟨rfl, rfl⟩, ⟨rfl, fun _ => rfl⟩, ⟨rfl, rfl⟩,
    rfl, rfl, rfl⟩

end Machine

end Sys2Proof

namespace Sys2Proof.Proofs

open Sys2Proof.Machine

/-- Settles O6, field by field from its two bytes. -/
theorem frameChecksumRoundTrips : Obligations.FrameChecksumRoundTrips := by
  intro h f
  exact ⟨h, _, lowByte f.period, highByte f.period, lowByte f.voltage, highByte f.voltage, lowByte f.current,
    highByte f.current, rfl, rfl, toNat_eq_bytes _, toNat_eq_bytes _, toNat_eq_bytes _, decodeFrame_encodeFrame h f⟩

/-- Settles O24: the bytes are those of `encodeFrame` on the operands, and the checksum is their sum modulo 256. -/
theorem frameEncodeLaysOutTheFrame : Obligations.FrameEncodeLaysOutTheFrame := by
  intro s
  refine ⟨frameEncode s, _, lowByte s.pendingPeriod, highByte s.pendingPeriod, lowByte s.voltQ, highByte s.voltQ,
    lowByte s.sample, highByte s.sample, rfl, rfl, lowByte_toNat _, highByte_toNat _, lowByte_toNat _, highByte_toNat _,
    lowByte_toNat _, highByte_toNat _, ?checksum, frameEncode_unchanged s⟩
  case checksum => simp [State.frameFields, sum8_toNat, Nat.add_assoc]

/-- Settles O25. -/
theorem trySendAcceptsWhenIdle : Obligations.TrySendAcceptsWhenIdle := by
  intro s hw h8
  have hrun := trySend_of_idle h8
  exact ⟨s.acceptFrame, hrun, rfl, acceptFrame_readFrom hw, fun _ => acceptFrame_read_beyond hw, rfl, rfl, ⟨rfl, rfl⟩,
    trySend_unchanged hrun⟩

/-- Settles O26. -/
theorem trySendRejectsWhilePending : Obligations.TrySendRejectsWhilePending := by
  intro s hlt
  have hrun := trySend_of_pending hlt
  exact ⟨s.rejectFrame, hrun, rfl, rfl, rfl, rfl, ⟨rfl, fun _ => rfl⟩, trySend_unchanged hrun⟩

/-- Settles O28: the index is at most 7, so adding one does not wrap. -/
theorem drainOneSendsTheCurrentByte : Obligations.DrainOneSendsTheCurrentByte := by
  intro s hlt hr
  have hrun := drainOne_of_pending hlt hr
  obtain ⟨hframe, hrest⟩ := drainOne_unchanged hrun
  refine ⟨s.sendByte, hrun, ?index, fun _ => by rw [hframe], rfl, hrest⟩
  case index => rw [State.sendByte_txIdx]; bv_omega

end Sys2Proof.Proofs
end

section
/-! SUPPORT. The transmitter over runs: what a sequencer phase does to it, the byte stream of a step, and how far the index and the latch
move in a reset-free run (R131 to R134, R160). -/

namespace Sys2Proof.Machine

/-! ## The transmitter in one cycle -/

/-- What a sequencer phase from `d` to `u` does to the transmitter: nothing, or an accepted or a rejected TRY_SEND (R131). -/
inductive SendMove (d u : State) : Prop where
  | kept (hframe : u.frame = d.frame) (hidx : u.txIdx = d.txIdx) (hlatch : u.failLatch = d.failLatch)
      (hev : u.out.sendEv = d.out.sendEv)
  | accepted (hidle : d.txIdx = 8) (hframe : u.frame = d.acceptFrame.frame) (hidx : u.txIdx = 0)
      (hlatch : u.failLatch = d.failLatch) (hev : u.out.sendEv = 1)
  | rejected (hpending : d.txIdx < 8) (hframe : u.frame = d.frame) (hidx : u.txIdx = d.txIdx)
      (hlatch : u.failLatch = true) (hev : u.out.sendEv = 2)

theorem SequencerPhase.sendMove {d u : State} (h : SequencerPhase d u) : SendMove d u := by
  cases h with
  | start _ => exact .kept rfl rfl rfl rfl
  | wait _ _ => exact .kept rfl rfl rfl rfl
  | opto _ _ _ e he =>
    obtain ⟨_, ⟨_, rfl⟩ | ⟨_, _, rfl⟩⟩ := dcUpdate_next he <;> exact .kept (by simp) (by simp) (by simp) (by simp)
  | volt _ _ _ => exact .kept rfl rfl rfl rfl
  | curr _ _ _ e he =>
    obtain ⟨hidle, rfl⟩ | ⟨hpending, rfl⟩ := trySend_next he
    · exact .accepted hidle rfl rfl rfl rfl
    · exact .rejected hpending rfl rfl rfl rfl

/-- The transmitter phase leaves the buffer, the latch and the operands of the next frame alone. -/
theorem DrainPhase.sendOperands {s d : State} (h : DrainPhase s d) :
    d.frame = s.frame ∧ d.failLatch = s.failLatch ∧ d.params = s.params ∧ d.frameFields = s.frameFields := by
  have hsample := h.sample
  obtain ⟨_, _, rfl⟩ | ⟨_, rfl⟩ := h
  · exact ⟨rfl, rfl, rfl, congrArg (FrameFields.mk s.pendingPeriod s.voltQ) hsample⟩
  · exact ⟨rfl, rfl, rfl, rfl⟩

/-! ## The index -/

theorem DrainPhase.txIdx_le {s d : State} (h : DrainPhase s d) : d.txIdx.toNat ≤ s.txIdx.toNat + 1 := by
  obtain ⟨hlt, _, rfl⟩ | ⟨_, rfl⟩ := h
  · rw [State.sendByte_txIdx]; bv_omega
  · exact Nat.le_succ _

/-- A cycle without reset advances the index by at most one: one byte a cycle (R132). -/
theorem step_txIdx_le {s t : State} (h : step s = .next t) (hr : s.rst = false) :
    t.txIdx.toNat ≤ s.txIdx.toNat + 1 := by
  obtain ⟨hr', _⟩ | ⟨_, _, _, d, u, hd, hu, rfl⟩ := step_cases h
  · rw [hr] at hr'; cases hr'
  have hle := hd.txIdx_le
  cases hu.sendMove with
  | kept _ hidx _ _ | rejected _ _ hidx _ _ => rw [State.endCycle_txIdx, hidx]; exact hle
  | accepted _ _ hidx _ _ => rw [State.endCycle_txIdx, hidx]; exact Nat.zero_le _

theorem resetFree_mono {m n : Nat} {s : State} (hmn : m ≤ n) (h : resetFree n s) : resetFree m s := by
  induction m generalizing n s with
  | zero => trivial
  | succ m ih =>
    obtain ⟨n, rfl⟩ := Nat.exists_eq_add_of_le' (Nat.zero_lt_of_lt hmn)
    obtain ⟨hr, hfree⟩ := h
    exact ⟨hr, fun t ht => ih (Nat.le_of_succ_le_succ hmn) (hfree t ht)⟩

theorem txIdx_le_of_run {n : Nat} {s u : State} (hrun : runN n s = .next u) (hfree : resetFree n s) :
    u.txIdx.toNat ≤ s.txIdx.toNat + n := by
  induction n generalizing s with
  | zero => cases hrun; exact le_rfl
  | succ n ih =>
    obtain ⟨t, ht, hrest⟩ := andThen_eq_next_iff.1 hrun
    obtain ⟨hr, hfree'⟩ := hfree
    have hfirst := step_txIdx_le ht hr
    have hothers := ih hrest (hfree' t ht)
    omega

/-! ## The failure latch -/

/-- A cycle without reset leaves the latch alone, or sets it and reports the overrun (R134). -/
theorem step_failLatch {s t : State} (h : step s = .next t) (hr : s.rst = false) :
    t.failLatch = s.failLatch ∨ t.failLatch = true ∧ t.out.sendEv = 2 := by
  obtain ⟨hr', _⟩ | ⟨_, _, _, d, u, hd, hu, rfl⟩ := step_cases h
  · rw [hr] at hr'; cases hr'
  obtain ⟨_, hkept, _, _⟩ := hd.sendOperands
  cases hu.sendMove with
  | kept _ _ hlatch _ | accepted _ _ _ hlatch _ => exact .inl (hlatch.trans hkept)
  | rejected _ _ _ hlatch hev => exact .inr ⟨hlatch, hev⟩

theorem step_failLatch_of_rst {s t : State} (h : step s = .next t) (hr : s.rst = true) : t.failLatch = false := by
  obtain ⟨_, rfl⟩ | ⟨hr', _⟩ := step_cases h
  · rfl
  · rw [hr] at hr'; cases hr'

/-! ## The byte stream of one cycle (R133) -/

/-- The byte that the sink took in the cycle that ended in `t`. -/
def State.sentNow (t : State) : List Byte := if t.out.txWe then [t.out.txData] else []

/-- The bytes of the frame that TRY_SEND accepted in the cycle from `s` to `t`. -/
def State.acceptedNow (s t : State) : List Byte :=
  if t.out.sendEv = encodeSend .accepted then encodeFrame s.params.header s.frameFields else []

theorem sentBytes_succ {s t : State} (h : step s = .next t) (n : Nat) :
    sentBytes (n + 1) s = t.sentNow ++ sentBytes n t := by
  rw [sentBytes, h]; rfl

theorem acceptedFrames_succ {s t : State} (h : step s = .next t) (n : Nat) :
    (acceptedFrames (n + 1) s).flatten = s.acceptedNow t ++ (acceptedFrames n t).flatten := by
  rw [acceptedFrames, h, List.flatten_append]
  congr 1
  unfold State.acceptedNow
  split <;> simp

theorem unsent_of_idle {s : State} (h : s.txIdx = 8) : s.unsent = [] := by
  rw [State.unsent, h]; rfl

theorem unsent_of_pending {s : State} (h : s.txIdx < 8) :
    s.unsent = s.frame.read s.txIdx.toNat :: s.sendByte.unsent := by
  have hnext : (s.txIdx + 1).toNat = s.txIdx.toNat + 1 := by bv_omega
  have hrest : 8 - s.txIdx.toNat = 8 - (s.txIdx.toNat + 1) + 1 := by bv_omega
  rw [State.unsent, State.unsent, State.sendByte_txIdx, State.sendByte_frame, hnext, hrest]
  rfl

/-- The transmitter phase moves the byte it sends out of the unsent rest. -/
theorem DrainPhase.unsent {s d : State} (h : DrainPhase s.beginCycle d) : d.sentNow ++ d.unsent = s.unsent := by
  obtain ⟨hlt, _, rfl⟩ | ⟨_, rfl⟩ := h
  · exact (unsent_of_pending hlt).symm
  · rfl

theorem unsent_congr {s t : State} (hframe : t.frame = s.frame) (hidx : t.txIdx = s.txIdx) : t.unsent = s.unsent := by
  rw [State.unsent, State.unsent, hframe, hidx]

/-- The sequencer phase appends an accepted frame, which only an idle transmitter takes, to the unsent rest. -/
theorem SendMove.unsent {d u : State} (h : SendMove d u) (hw : d.frame.wf = true) (hquiet : d.out.sendEv = 0) :
    u.unsent = d.unsent ++ d.acceptedNow u := by
  cases h with
  | kept hframe hidx _ hev =>
    have hnone : d.acceptedNow u = [] := if_neg (by rw [hev, hquiet]; decide)
    rw [hnone, List.append_nil, unsent_congr hframe hidx]
  | accepted hidle hframe hidx _ hev =>
    have hone : d.acceptedNow u = encodeFrame d.params.header d.frameFields := if_pos hev
    rw [hone, unsent_of_idle hidle, List.nil_append, State.unsent, hframe, hidx]
    exact acceptFrame_readFrom hw
  | rejected _ hframe hidx _ hev =>
    have hnone : d.acceptedNow u = [] := if_neg (by rw [hev]; decide)
    rw [hnone, List.append_nil, unsent_congr hframe hidx]

/-- Only the transmitter phase drives the byte ports (R132). -/
theorem SequencerPhase.sentNow {s d u : State} (hu : SequencerPhase d u) (hd : DrainPhase s.beginCycle d) :
    u.sentNow = d.sentNow := by
  obtain ⟨hseq, _⟩ := hd.same
  have hports : SequencerPorts d u :=
    hu.ports (by rw [hd.out, hseq]; rfl) (by rw [hd.out]; rfl) (by rw [hd.out]; rfl) (by rw [hd.out]; rfl)
  rw [State.sentNow, State.sentNow, hports.txWe, hports.txData]

/-- One cycle without reset: what is sent and what is still unsent after it are what was unsent before it and the frame accepted. -/
theorem step_stream {s t : State} (hw : s.frame.wf = true) (h : step s = .next t) (hr : s.rst = false) :
    t.sentNow ++ t.unsent = s.unsent ++ s.acceptedNow t := by
  obtain ⟨hr', _⟩ | ⟨_, _, _, d, u, hd, hu, rfl⟩ := step_cases h
  · rw [hr] at hr'; cases hr'
  obtain ⟨hframe, _, hparams, hfields⟩ := hd.sendOperands
  have hdw : d.frame.wf = true := hframe ▸ hw
  have hquiet : d.out.sendEv = 0 := by rw [hd.out]; rfl
  have haccepted : d.acceptedNow u = s.acceptedNow u := by
    rw [State.acceptedNow, State.acceptedNow, hparams, hfields]; rfl
  calc u.sentNow ++ u.unsent = d.sentNow ++ (d.unsent ++ d.acceptedNow u) := by
        rw [hu.sentNow hd, hu.sendMove.unsent hdw hquiet]
    _ = s.unsent ++ s.acceptedNow u := by rw [← List.append_assoc, hd.unsent, haccepted]

/-! ## A cycle with SAMPLE_CURR -/

/-- TRY_SEND completes wherever the index is no reserved code. -/
theorem trySend_completes {s : State} (h : s.txIdx.toNat ≤ 8) : ∃ t, trySend s = .next t := by
  rcases Nat.lt_or_eq_of_le h with hlt | h8
  · exact ⟨_, trySend_of_pending hlt⟩
  · exact ⟨_, trySend_of_idle (by bv_omega)⟩

/-- DRAIN_ONE completes there too, and does not leave the index on a reserved code. -/
theorem drainOne_completes {s : State} (h : s.txIdx.toNat ≤ 8) : ∃ t, drainOne s = .next t ∧ t.txIdx.toNat ≤ 8 := by
  by_cases hskip : s.txIdx = 8 ∨ s.txReady = false
  · exact ⟨s, if_pos hskip, h⟩
  · obtain ⟨h8, hr⟩ := not_or.1 hskip
    have hlt : s.txIdx.toNat < 8 := by bv_omega
    refine ⟨_, drainOne_of_pending hlt (by simpa using hr), ?_⟩
    rw [State.sendByte_txIdx]; bv_omega

/-- SAMPLE_CURR completes where TRY_SEND, its first part, does. -/
theorem sampleCurr_completes {s : State} (h : s.txIdx.toNat ≤ 8) : ∃ t, exec .sampleCurr s = .next t := by
  obtain ⟨e, he⟩ := trySend_completes h
  exact ⟨_, andThen_eq_next_iff.2 ⟨e, he, rfl⟩⟩

/-- The operations of a cycle with SAMPLE_CURR (R150). -/
theorem decode_of_sampleCurr {s : State} (hr : s.rst = false) (h3 : s.seq ≠ 3) (hc : Instr.sampleCurr ∈ decode s.dv) :
    decode s.dv = (if s.txReady && s.txPending then [.drainOne] else []) ++ [.sampleCurr] := by
  obtain ⟨hb, hd, h2⟩ := (sampleCurr_mem_decode_iff hr h3).1 hc
  simp [decode_dv, hr, hb, hd, h2]

theorem step_curr_completes {s : State} (hi : s.Inv) (hr : s.rst = false) (hc : Instr.sampleCurr ∈ decode s.dv) :
    ∃ t, step s = .next t := by
  obtain ⟨d, hd, h8⟩ := drainOne_completes (s := s.beginCycle) hi.legal.txIdx_le
  rw [step_eq_runOps (refusedCycle_eq_none (.inl hi)), decode_of_sampleCurr hr hi.legal.seq_legal hc]
  split
  · obtain ⟨u, hu⟩ := sampleCurr_completes h8
    exact ⟨u.endCycle, by simp [hd, hu]⟩
  · obtain ⟨u, hu⟩ := sampleCurr_completes (s := s.beginCycle) hi.legal.txIdx_le
    exact ⟨u.endCycle, by simp [hu]⟩

/-- A step with SAMPLE_CURR: the state `d` after the transmitter phase, TRY_SEND's `e`, and then the status and the sequencer's return to
OPTO (R157). -/
theorem step_curr {s t : State} (h : step s = .next t) (hr : s.rst = false) (hc : Instr.sampleCurr ∈ decode s.dv) :
    ∃ d e, DrainPhase s.beginCycle d ∧ trySend d = .next e ∧
      t = ({ e with statusQ := e.failLatch, seq := 0, convBusy := false } : State).endCycle := by
  obtain ⟨hr', _⟩ | ⟨_, h3, _, d, u, hd, hu, rfl⟩ := step_cases h
  · rw [hr] at hr'; cases hr'
  obtain ⟨hb, ha, h2⟩ := (sampleCurr_mem_decode_iff hr h3).1 hc
  obtain ⟨hseq, hbusy, _⟩ := hd.same
  have hdone := hd.adcDone
  rw [State.beginCycle_seq, h2] at hseq
  rw [State.beginCycle_convBusy, hb] at hbusy
  rw [State.beginCycle_adcDone, ha] at hdone
  cases hu with
  | start hb' => rw [hbusy] at hb'; cases hb'
  | wait _ hd' => rw [hdone] at hd'; cases hd'
  | opto _ _ hs _ _ => rw [hseq] at hs; cases hs
  | volt _ _ hs => rw [hseq] at hs; cases hs
  | curr _ _ _ e he => exact ⟨d, e, hd, he, rfl⟩

/-- A SAMPLE_CURR that finds bytes 0 to 6 still to send overruns, though one byte goes out in its own cycle (R131, R203). -/
theorem step_curr_overruns {s t : State} (h : step s = .next t) (hr : s.rst = false) (hc : Instr.sampleCurr ∈ decode s.dv)
    (hlt : s.txIdx.toNat < 7) : t.out.sendEv = 2 ∧ t.failLatch = true ∧ t.statusQ = true ∧ t.seq = 0 := by
  obtain ⟨d, e, hd, he, rfl⟩ := step_curr h hr hc
  have hle := hd.txIdx_le
  rw [State.beginCycle_txIdx] at hle
  rw [trySend_of_pending (by omega)] at he
  cases he
  exact ⟨rfl, rfl, rfl, rfl⟩

/-- A cycle that reports an accepted frame leaves it pending at index 0 (R131). -/
theorem step_txIdx_of_accepted {s t : State} (h : step s = .next t) (hev : t.out.sendEv = 1) : t.txIdx = 0 := by
  obtain ⟨_, rfl⟩ | ⟨_, _, _, d, u, hd, hu, rfl⟩ := step_cases h
  · cases hev
  have hquiet : d.out.sendEv = 0 := by rw [hd.out]; rfl
  cases hu.sendMove with
  | kept _ _ _ hkept => exact absurd ((hkept.trans hquiet).symm.trans hev) (by decide)
  | accepted _ _ hidx _ _ => exact hidx
  | rejected _ _ _ _ hrej => exact absurd (hrej.symm.trans hev) (by decide)

theorem runN_inv {n : Nat} {s u : State} (hi : s.Inv) (hrun : runN n s = .next u) : u.Inv :=
  runN_induction (P := State.Inv) hrun hi fun _ c d _ _ hd hc => Proofs.everyStepKeepsTheInvariant c d hc hd

end Sys2Proof.Machine

namespace Sys2Proof.Proofs

open Sys2Proof.Machine

/-- Settles O50, by induction on the cycles: each moves at most one byte out and at most one frame in. -/
theorem sinkReceivesWholeFramesInOrder : Obligations.SinkReceivesWholeFramesInOrder := by
  intro s t n hi hfree hrun
  induction n generalizing s with
  | zero => cases hrun; exact (List.append_nil _).symm
  | succ n ih =>
    obtain ⟨u, hu, hrest⟩ := andThen_eq_next_iff.1 hrun
    obtain ⟨hr, hfree'⟩ := hfree
    have htail := ih u (everyStepKeepsTheInvariant s u hi hu) (hfree' u hu) hrest
    rw [sentBytes_succ hu, acceptedFrames_succ hu, List.append_assoc, htail, ← List.append_assoc,
      step_stream hi.stored.frame_wf hu hr, List.append_assoc]

/-- Settles O51: an accepted frame makes the transmitter pending, and no cycle but a reset clears the latch. -/
theorem failureLatchIsSticky : Obligations.FailureLatchIsSticky := by
  refine ⟨fun s h8 => ?_, fun s t h hclear hset => ?_, fun s t n hset hfree hrun => ?_⟩
  · exact ⟨s.acceptFrame, s.acceptFrame.rejectFrame, trySend_of_idle h8, rfl,
      trySend_of_pending (s := s.acceptFrame) (by simp), rfl, rfl⟩
  · by_cases hr : s.rst = true
    · exact absurd (hset.symm.trans (step_failLatch_of_rst h hr)) (by decide)
    · obtain hsame | ⟨_, hev⟩ := step_failLatch h (by simpa using hr)
      · exact absurd (hset.symm.trans (hsame.trans hclear)) (by decide)
      · exact hev
  · refine runN_induction (P := fun c => c.failLatch = true) hrun hset fun k c d hk hc hd hlatch => ?_
    obtain hsame | ⟨hd', _⟩ := step_failLatch hd (rst_of_resetFree hfree hk hc)
    · exact hsame.trans hlatch
    · exact hd'

/-- Settles O54: the index starts at 0 and moves at most one a cycle, so at most six bytes are out when the SAMPLE_CURR cycle begins. -/
theorem sendTooSoonOverruns : Obligations.SendTooSoonOverruns := by
  intro s t u n hi hst haccepted hn hfree hrun hc
  have hui : u.Inv := runN_inv (everyStepKeepsTheInvariant s t hi hst) hrun
  have hr : u.rst = false := rst_of_resetFree hfree (Nat.lt_succ_self n) hrun
  have hidx : u.txIdx.toNat ≤ n := by
    have hle := txIdx_le_of_run hrun (resetFree_mono (Nat.le_succ n) hfree)
    simpa [step_txIdx_of_accepted hst haccepted] using hle
  obtain ⟨v, hv⟩ := step_curr_completes hui hr hc
  exact ⟨v, hv, step_curr_overruns hv hr hc (by omega)⟩

end Sys2Proof.Proofs
end

section
/-! SUPPORT. The sequencer's operations one by one: what each writes and what it leaves, where it completes, and the order in which a
cycle runs them (R150 to R158). -/

namespace Sys2Proof.Machine

/-! ## The operations -/

/-- DC_UPDATE completes where its index and count are in range and the sum covers the sample it evicts (R100). -/
theorem dcUpdate_completes {s : State} (hc : s.count ≤ s.params.win) (hh : s.hidx < s.params.win)
    (ho : s.count = s.params.win → s.oldest.toNat ≤ s.sum) : ∃ t, dcUpdate s = .next t := by
  rcases Nat.lt_or_eq_of_le hc with hlt | hfull
  · exact ⟨_, dcUpdate_fill hlt hh⟩
  · exact ⟨_, dcUpdate_evict hfull hh (ho hfull)⟩

/-- What SAMPLE_OPTO makes of the state `e` that DC_UPDATE leaves (R155). -/
def State.observe (e : State) : State := { (periodObserve (edgeDetect e)).takeEvent with convBusy := false }

theorem sampleOpto_of_dcUpdate {s e : State} (h : dcUpdate s = .next e) : exec .sampleOpto s = .next e.observe := by
  simp only [exec, execSampleOpto, h, andThen_next]
  rfl

/-- The publish event moves the sequencer to VOLT with its period; without one neither changes (R155). -/
theorem observe_event (e : State) :
    (e.observe.wires.event = .none → e.observe.seq = e.seq ∧ e.observe.pendingPeriod = e.pendingPeriod) ∧
      (∀ p, e.observe.wires.event = .measured p → e.observe.seq = 1 ∧ e.observe.pendingPeriod = p) ∧
      (e.observe.wires.event = .timedOut → e.observe.seq = 1 ∧ e.observe.pendingPeriod = 0) := by
  have hwires : e.observe.wires = (periodObserve (edgeDetect e)).wires := State.takeEvent_wires _
  have hseq : e.observe.seq = (periodObserve (edgeDetect e)).takeEvent.seq := rfl
  have hperiod : e.observe.pendingPeriod = (periodObserve (edgeDetect e)).takeEvent.pendingPeriod := rfl
  rw [hseq, hperiod, State.takeEvent_seq, State.takeEvent_pendingPeriod, hwires]
  refine ⟨fun hn => ?_, fun p hp => ?_, fun ht => ?_⟩
  · rw [if_pos hn, if_pos hn]; exact ⟨rfl, rfl⟩
  · rw [hp]; exact ⟨rfl, rfl⟩
  · rw [ht]; exact ⟨rfl, rfl⟩

/-- After PERIOD_OBSERVE, SAMPLE_OPTO drives no port and writes no register but the sequencer's and `pending_period`. -/
theorem observe_unchanged (e : State) :
    SameTracker (periodObserve (edgeDetect e)) e.observe ∧ SameDetector (periodObserve (edgeDetect e)) e.observe ∧
      SameMonitor (periodObserve (edgeDetect e)) e.observe ∧ e.observe.out = (periodObserve (edgeDetect e)).out ∧
      e.observe.wires = (periodObserve (edgeDetect e)).wires := by
  simp [SameTracker, SameDetector, SameMonitor, State.observe]

/-- The detector, the monitor and the publish event leave the memories, `volt_q`, the transmitter and the latch alone. -/
theorem observe_frame (e : State) :
    e.observe.hist = e.hist ∧ e.observe.voltQ = e.voltQ ∧ SameFrame e e.observe ∧ SameLatch e e.observe ∧
      SameModel e e.observe := by
  simp [SameFrame, SameLatch, SameModel, State.observe]

/-- Beyond TRY_SEND, SAMPLE_CURR writes only `status_q`, `seq` and `conv_busy` (R157). -/
theorem sampleCurr_of_trySend {s e : State} (h : trySend s = .next e) :
    exec .sampleCurr s = .next { e with statusQ := e.failLatch, seq := 0, convBusy := false } := by
  simp only [exec, execSampleCurr, h, andThen_next]

/-- A rejected TRY_SEND leaves the frame and its index alone (R131). -/
theorem trySend_sameFrame {s t : State} (h : trySend s = .next t) (h8 : s.txIdx ≠ 8) : SameFrame s t := by
  obtain ⟨hidle, _⟩ | ⟨_, rfl⟩ := trySend_next h
  · exact absurd hidle h8
  · exact ⟨rfl, fun _ => rfl⟩

/-- TRY_SEND writes no byte of the frame buffer beyond byte 7 (R53). -/
theorem trySend_read_beyond {s t : State} (hw : s.frame.wf = true) (h : trySend s = .next t) {i : Nat} (hi : 8 ≤ i) :
    t.frame.read i = s.frame.read i := by
  obtain ⟨_, rfl⟩ | ⟨_, rfl⟩ := trySend_next h
  · exact acceptFrame_read_beyond hw hi
  · rfl

/-! ## Cycles by their operations -/

theorem decode_of_rst {s : State} (hr : s.rst = true) : decode s.dv = [.reset] := by
  rw [decode_dv, if_pos hr]

/-- A cycle with `rst = 1` is RESET alone, in any state (R185). -/
theorem step_of_rst {s : State} (hr : s.rst = true) : step s = .next s.beginCycle.resetRegisters.endCycle := by
  rw [step_eq_runOps (refusedCycle_eq_none (.inr hr)), decode_of_rst hr]
  rfl

/-- A cycle with `rst = 0` and `seq = 3` is RESERVED_SEQ alone (R158). -/
theorem step_of_reservedSeq {s : State} (hr : s.rst = false) (h3 : s.seq = 3) : step s = .refused .reservedSeq := by
  have hrefused : s.refusedCycle = none := by simp [State.refusedCycle, h3]
  have hdecode : decode s.dv = [.reservedSeq] := by simp [decode_dv, hr, h3]
  rw [step_eq_runOps hrefused, hdecode]
  rfl

end Sys2Proof.Machine

namespace Sys2Proof.Proofs

open Sys2Proof.Machine

/-- Settles O32, from the fields of the decode vector; `seq` is not 3 in a legal state. -/
theorem cycleOrderIsDrainThenSequencer : Obligations.CycleOrderIsDrainThenSequencer := by
  intro s hl hr
  have hstart : (if s.adcDone = true then [Instr.convStart, Instr.ignoreDone] else [Instr.convStart]) =
      .convStart :: (if s.adcDone = true then [.ignoreDone] else []) := by
    split <;> rfl
  rw [decode_dv, if_neg (by simp [hr]), if_neg hl.seq_legal, txPending_eq_decide, hstart]
  simp only [Bool.and_eq_true, decide_eq_true_iff, and_comm]

/-- Settles O13. -/
theorem resetWritesEveryRegister : Obligations.ResetWritesEveryRegister := fun s =>
  ⟨s.resetRegisters, exec_reset s, rfl, rfl, rfl, rfl, rfl, rfl, rfl, rfl, rfl, rfl, rfl, rfl, rfl, rfl, fun _ => rfl,
    fun _ => rfl, rfl, rfl, rfl, rfl⟩

/-- Settles O15. -/
theorem convStartStartsAConversion : Obligations.ConvStartStartsAConversion := fun s =>
  ⟨_, exec_convStart s, rfl, rfl, rfl, rfl, ⟨rfl, rfl, rfl, fun _ => rfl⟩, ⟨rfl, rfl⟩, ⟨rfl, rfl⟩, ⟨rfl, rfl⟩,
    ⟨rfl, fun _ => rfl⟩, ⟨rfl, rfl⟩, rfl, rfl, rfl⟩

/-- Settles O16: either operation answers the state it was given. -/
theorem waitAndIgnoreDoneWriteNothing : Obligations.WaitAndIgnoreDoneWriteNothing := by
  intro s i hi
  have hrun : exec i s = .next s := by
    rcases hi with rfl | rfl
    · exact exec_wait s
    · exact exec_ignoreDone s
  exact ⟨s, hrun, rfl, rfl, ⟨rfl, rfl⟩, ⟨rfl, rfl, rfl, fun _ => rfl⟩, ⟨rfl, rfl⟩, ⟨rfl, rfl⟩, ⟨rfl, rfl⟩,
    ⟨rfl, fun _ => rfl⟩, ⟨rfl, rfl⟩, rfl, rfl, rfl⟩

/-- Settles O17: the cycle's only operation is RESERVED_SEQ, or RESET. -/
theorem reservedSeqIsRefused : Obligations.ReservedSeqIsRefused :=
  ⟨exec_reservedSeq, fun _ h3 => ⟨fun hr => step_of_reservedSeq hr h3, fun hr => ⟨_, step_of_rst hr, rfl⟩⟩⟩

/-- Settles O22: DC_UPDATE completes, and the frame of SAMPLE_OPTO is that of its parts. -/
theorem sampleOptoRunsThreeParts : Obligations.SampleOptoRunsThreeParts := by
  intro s hc hh ho
  obtain ⟨e, he⟩ := dcUpdate_completes hc hh ho
  obtain ⟨hseq, hpending⟩ := dcUpdate_sequencer he
  obtain ⟨_, _, _, _, ⟨_, hvolt⟩, hframe, hlatch, hmodel⟩ := dcUpdate_frame he
  obtain ⟨htracker, hdetector, hmonitor, hout, hwires⟩ := observe_unchanged e
  obtain ⟨hhist, hvolt', hframe', hlatch', hmodel'⟩ := observe_frame e
  obtain ⟨hnone, hmeasured, htimedOut⟩ := observe_event e
  rw [hwires, hseq, hpending] at hnone
  rw [hwires] at hmeasured htimedOut
  refine ⟨e, edgeDetect e, periodObserve (edgeDetect e), e.observe, he, rfl, rfl, sampleOpto_of_dcUpdate he, rfl, hnone,
    hmeasured, htimedOut, htracker, hdetector, hmonitor, hout, hwires, fun hw => ?slots, hvolt'.trans hvolt, ?frame,
    ?latch, hmodel.trans hmodel'⟩
  case slots => rw [hhist]; exact dcUpdate_slots hw he
  case frame => exact ⟨hframe'.1.trans hframe.1, fun i => (hframe'.2 i).trans (hframe.2 i)⟩
  case latch => exact ⟨hlatch'.1.trans hlatch.1, hlatch'.2.trans hlatch.2⟩

/-- Settles O23: `volt_q` takes the low bits of `adc_data`, whatever ADC_W is. -/
theorem sampleVoltStoresTheReading : Obligations.SampleVoltStoresTheReading := fun s _ _ =>
  ⟨_, exec_sampleVolt s, lowBits_toNat _ _, rfl, rfl, rfl, rfl, rfl, ⟨rfl, rfl, rfl, fun _ => rfl⟩, ⟨rfl, rfl⟩,
    ⟨rfl, rfl⟩, ⟨rfl, fun _ => rfl⟩, ⟨rfl, rfl⟩, rfl, rfl, rfl⟩

/-- Settles O27: TRY_SEND completes, and the frame of SAMPLE_CURR is TRY_SEND's. -/
theorem sampleCurrSendsAndReportsStatus : Obligations.SampleCurrSendsAndReportsStatus := by
  intro s h8
  obtain ⟨e, he⟩ := trySend_completes h8
  obtain ⟨_, htracker, hdetector, hmonitor, hoperands, hmodel⟩ := trySend_unchanged he
  have hframe : s.txIdx ≠ 8 → SameFrame s e := trySend_sameFrame he
  exact ⟨e, _, he, sampleCurr_of_trySend he, rfl, rfl, rfl, rfl, rfl, rfl, ⟨rfl, fun _ => rfl⟩, hframe,
    fun hw _ => trySend_read_beyond hw he, htracker, hdetector, hmonitor, hoperands, hmodel⟩

end Sys2Proof.Proofs
end

section
/-! SUPPORT. The sequencer over cycles: the moves of `seq` and `conv_busy`, the drain beside them, and the cycle that starts a conversion
(R150, R152, R159, R160, R213). -/

namespace Sys2Proof.Machine

/-! ## The moves of the sequencer -/

/-- What a cycle with `rst = 0` does to `seq` and `conv_busy` (R159): a conversion is started or awaited, or its completion is taken on the
channel of `seq`. Only a publish leaves OPTO. -/
inductive SequencerMove (s t : State) : Prop where
  | convert (hn : ¬ (s.convBusy = true ∧ s.adcDone = true)) (hseq : t.seq = s.seq) (hbusy : t.convBusy = true)
  | opto (hb : s.convBusy = true) (hd : s.adcDone = true) (hs : s.seq = 0)
      (hseq : t.seq = if t.out.pubValid = true then 1 else 0) (hbusy : t.convBusy = false)
  | volt (hb : s.convBusy = true) (hd : s.adcDone = true) (hs : s.seq = 1) (hseq : t.seq = 2) (hbusy : t.convBusy = false)
  | curr (hb : s.convBusy = true) (hd : s.adcDone = true) (hs : s.seq = 2) (hseq : t.seq = 0) (hbusy : t.convBusy = false)

/-- From OPTO, the event that PERIOD_OBSERVE drives onto the publish ports decides the next channel (R155). -/
theorem observe_seq_of_opto {e : State} (h0 : e.seq = 0) :
    e.observe.seq = if e.observe.out.pubValid = true then 1 else 0 := by
  have hseq : e.observe.seq = (periodObserve (edgeDetect e)).takeEvent.seq := rfl
  have hvalid : e.observe.out.pubValid = encodePubValid (edgeDetect e).monitorEvent :=
    congrArg Outputs.pubValid (State.takeEvent_out _)
  rw [hseq, hvalid, State.takeEvent_seq, periodObserve_wires, periodObserve_seq, edgeDetect_seq, h0]
  cases (edgeDetect e).monitorEvent <;> rfl

theorem SequencerPhase.move {d u : State} (h : SequencerPhase d u) : SequencerMove d u := by
  cases h with
  | start hb => exact .convert (by simp [hb]) rfl rfl
  | wait hb hd => exact .convert (by simp [hd]) rfl hb
  | opto hb hd hs e he => exact .opto hb hd hs (observe_seq_of_opto ((dcUpdate_sequencer he).1.trans hs)) rfl
  | volt hb hd hs => exact .volt hb hd hs rfl rfl
  | curr hb hd hs e he => exact .curr hb hd hs rfl rfl

theorem step_sequencerMove {s t : State} (h : step s = .next t) (hr : s.rst = false) : SequencerMove s t := by
  obtain ⟨hr', _⟩ | ⟨_, _, _, d, u, hd, hu, rfl⟩ := step_cases h
  · rw [hr] at hr'; cases hr'
  obtain ⟨hseq, hbusy, _⟩ := hd.same
  have hdone : d.adcDone = s.adcDone := hd.adcDone
  rw [State.beginCycle_seq] at hseq
  rw [State.beginCycle_convBusy] at hbusy
  cases hu.move with
  | convert hn hs hb => exact .convert (by rwa [hbusy, hdone] at hn) (hs.trans hseq) hb
  | opto hb hd' hs hnext hidle => exact .opto (hbusy ▸ hb) (hdone ▸ hd') (hseq ▸ hs) hnext hidle
  | volt hb hd' hs hnext hidle => exact .volt (hbusy ▸ hb) (hdone ▸ hd') (hseq ▸ hs) hnext hidle
  | curr hb hd' hs hnext hidle => exact .curr (hbusy ▸ hb) (hdone ▸ hd') (hseq ▸ hs) hnext hidle

/-! ## Which sequencer operation fires -/

section
variable {s : State} (hr : s.rst = false) (h3 : s.seq ≠ 3)
include hr

theorem sampleOpto_mem_decode_iff :
    Instr.sampleOpto ∈ decode s.dv ↔ s.convBusy = true ∧ s.adcDone = true ∧ s.seq = 0 :=
  (takesOpto_iff s).trans (and_iff_right hr)

include h3

theorem sampleVolt_mem_decode_iff :
    Instr.sampleVolt ∈ decode s.dv ↔ s.convBusy = true ∧ s.adcDone = true ∧ s.seq = 1 := by
  rw [decode_dv]
  split_ifs <;> simp_all

theorem convStart_or_wait_mem_decode_iff :
    Instr.convStart ∈ decode s.dv ∨ Instr.wait ∈ decode s.dv ↔ ¬ (s.convBusy = true ∧ s.adcDone = true) := by
  rw [decode_dv]
  split_ifs <;> simp_all

end

theorem rst_of_sampleCurr_mem {s : State} (hc : Instr.sampleCurr ∈ decode s.dv) : s.rst = false := by
  by_contra hr
  rw [decode_of_rst (by simpa using hr)] at hc
  simp at hc

/-! ## How far SAMPLE_CURR is away -/

/-- The fewest cycles before one can be a SAMPLE_CURR: one that starts a conversion, unless one runs, and two for each channel that
comes before CURR (R159). -/
def State.cyclesToCurr (s : State) : Nat := 2 * (2 - s.seq.toNat) + (!s.convBusy).toNat

theorem SequencerMove.cyclesToCurr_le {s t : State} (h : SequencerMove s t) : s.cyclesToCurr ≤ t.cyclesToCurr + 1 := by
  cases h with
  | convert _ hseq _ =>
    have hle := (!s.convBusy).toNat_le
    simp only [State.cyclesToCurr, hseq]
    omega
  | opto hb _ hs hseq hbusy =>
    rw [State.cyclesToCurr, State.cyclesToCurr, hb, hs, hseq, hbusy]
    cases t.out.pubValid <;> decide
  | volt hb _ hs hseq hbusy | curr hb _ hs hseq hbusy =>
    rw [State.cyclesToCurr, State.cyclesToCurr, hb, hs, hseq, hbusy]
    decide

/-- A cycle brings SAMPLE_CURR nearer by at most one cycle; a reset puts it farthest. -/
theorem step_cyclesToCurr_le {s t : State} (h : step s = .next t) : s.cyclesToCurr ≤ t.cyclesToCurr + 1 := by
  by_cases hr : s.rst = true
  · rw [step_of_rst hr] at h
    cases h
    have hle := (!s.convBusy).toNat_le
    have hfar : s.beginCycle.resetRegisters.endCycle.cyclesToCurr = 5 := rfl
    rw [hfar, State.cyclesToCurr]
    omega
  · exact (step_sequencerMove h (by simpa using hr)).cyclesToCurr_le

theorem runN_cyclesToCurr_le {n : Nat} {s u : State} (hrun : runN n s = .next u) :
    s.cyclesToCurr ≤ u.cyclesToCurr + n := by
  induction n generalizing s with
  | zero => cases hrun; exact le_rfl
  | succ n ih =>
    obtain ⟨t, ht, hrest⟩ := andThen_eq_next_iff.1 hrun
    have hfirst := step_cyclesToCurr_le ht
    have hothers := ih hrest
    omega

theorem cyclesToCurr_of_sampleCurr {s : State} (h3 : s.seq ≠ 3) (hc : Instr.sampleCurr ∈ decode s.dv) :
    s.cyclesToCurr = 0 := by
  obtain ⟨hb, _, h2⟩ := (sampleCurr_mem_decode_iff (rst_of_sampleCurr_mem hc) h3).1 hc
  rw [State.cyclesToCurr, hb, h2]
  rfl

/-- A publish leaves the sequencer at VOLT with no conversion running: three cycles before a SAMPLE_CURR (R155). -/
theorem cyclesToCurr_of_publish {s t : State} (h : step s = .next t) (hp : t.out.pubValid = true) : t.cyclesToCurr = 3 := by
  by_cases hr : s.rst = true
  · rw [step_out_of_rst h hr] at hp
    cases hp
  have hr' : s.rst = false := by simpa using hr
  have ho : s.takesOpto := by
    by_contra ho
    have hquiet := congrArg Prod.fst ((step_ports h hr').publish_of_not_opto ho)
    exact absurd (hp.symm.trans hquiet) (by decide)
  obtain ⟨_, hb, hd, h0⟩ := (takesOpto_iff s).1 ho
  cases step_sequencerMove h hr' with
  | convert hn _ _ => exact absurd ⟨hb, hd⟩ hn
  | opto _ _ _ hseq hbusy => rw [State.cyclesToCurr, hseq, hp, hbusy]; rfl
  | volt _ _ hs _ _ | curr _ _ hs _ _ => exact absurd (h0.symm.trans hs) (by decide)

/-! ## The drain beside the sequencer -/

/-- The transmitter phase advances the index by the byte it sends (R132). -/
theorem DrainPhase.txIdx {s d : State} (h : DrainPhase s d) :
    (s.txIdx ≠ 8 → s.txReady = true → d.txIdx.toNat = s.txIdx.toNat + 1) ∧
      (s.txIdx = 8 ∨ s.txReady = false → d.txIdx = s.txIdx) := by
  obtain ⟨hlt, hr, rfl⟩ | ⟨hn, rfl⟩ := h
  · refine ⟨fun _ _ => by rw [State.sendByte_txIdx]; bv_omega, ?_⟩
    rintro (h8 | hf)
    · bv_omega
    · rw [hr] at hf; cases hf
  · exact ⟨fun h8 hr => absurd hn (not_or.2 ⟨h8, by simp [hr]⟩), fun _ => rfl⟩

/-- Unless a frame is accepted, the index after a cycle is the one that the transmitter phase leaves (R131). -/
theorem step_txIdx_of_not_accepted {s t : State} (h : step s = .next t) (hr : s.rst = false) (hev : t.out.sendEv ≠ 1) :
    ∃ d, DrainPhase s.beginCycle d ∧ t.txIdx = d.txIdx := by
  obtain ⟨hr', _⟩ | ⟨_, _, _, d, u, hd, hu, rfl⟩ := step_cases h
  · rw [hr] at hr'; cases hr'
  refine ⟨d, hd, ?_⟩
  cases hu.sendMove with
  | kept _ hidx _ _ | rejected _ _ hidx _ _ => exact hidx
  | accepted _ _ _ _ hacc => exact absurd hacc hev

/-- Running DRAIN_ONE where its row fires is running it always: elsewhere it does nothing (R132). -/
theorem runOps_drain (s : State) (ops : List Instr) :
    runOps ((if s.txReady && s.txPending then [.drainOne] else []) ++ ops) s.beginCycle =
      andThen (drainOne s.beginCycle) (runOps ops) := by
  split
  · rfl
  · next hn =>
    have hskip : s.beginCycle.txIdx = 8 ∨ s.beginCycle.txReady = false := by
      rw [txPending_eq_decide, Bool.and_eq_true, decide_eq_true_iff, and_comm, not_and_or, not_not] at hn
      simpa using hn
    rw [drainOne, if_pos hskip]
    rfl

/-! ## The cycle that starts a conversion -/

/-- A cycle that starts with `conv_busy = 0` is DRAIN_ONE and CONV_START; the IGNORE_DONE of an unrequested completion writes nothing
(R152, R154). -/
theorem step_of_convStart {s : State} (hi : s.Inv) (hr : s.rst = false) (hb : s.convBusy = false) :
    step s = andThen (drainOne s.beginCycle) fun d => .next ({ d.emitStart with convBusy := true } : State).endCycle := by
  have hstart : ∀ d, runOps (.convStart :: (if s.adcDone then [.ignoreDone] else [])) d =
      .next { d.emitStart with convBusy := true } := fun d => by
    split <;> rfl
  rw [step_eq_runOps (refusedCycle_eq_none (.inl hi)), decode_dv, if_neg (by simp [hr]), if_neg hi.legal.seq_legal,
    if_pos hb, runOps_drain, funext hstart, andThen_assoc]
  rfl

theorem State.Inv.withPorts {s : State} (hi : s.Inv) (x : Inputs) (vs : List IV) : (s.withPorts x vs).Inv :=
  ⟨hi.params_wf, { hi.legal with }, { hi.stored with }, hi.wires_idle⟩

/-- A cycle that starts a conversion sees of the input ports only `tx_ready` (R205). -/
theorem step_of_convStart_congr {s : State} {x y : Inputs} (vs : List IV) (hi : s.Inv) (hb : s.convBusy = false)
    (hx : x.rst = false) (hy : y.rst = false) (hready : y.txReady = x.txReady) :
    step (s.withPorts x vs) = step (s.withPorts y vs) := by
  have hbegin : (s.withPorts y vs).beginCycle = (s.withPorts x vs).beginCycle.withInputs (encodeIv y :: vs) := rfl
  have hdrain := drainOne_of_txReady (s := (s.withPorts x vs).beginCycle) (us := encodeIv y :: vs) (by
    rw [← hbegin]; simpa using hready)
  rw [step_of_convStart (hi.withPorts x vs) (by simpa using hx) hb,
    step_of_convStart (hi.withPorts y vs) (by simpa using hy) hb, hbegin, hdrain]
  cases hd : drainOne (s.withPorts x vs).beginCycle with
  | fault r => rfl
  | refused r => rfl
  | next d =>
    obtain ⟨_, hinputs, _⟩ := drainOne_sameModel hd
    have htail : ({ d.emitStart with convBusy := true } : State).endCycle.inputs = vs := congrArg List.tail hinputs
    exact congrArg Host.Outcome.next (State.withInputs_of_inputs_eq htail).symm

end Sys2Proof.Machine

namespace Sys2Proof.Proofs

open Sys2Proof.Machine

/-- Settles O52: the ports show the drain, and without an accepted frame the index is the transmitter phase's. -/
theorem transmitterDrainsInEveryCycle : Obligations.TransmitterDrainsInEveryCycle := by
  intro s t hi h hr
  have hports := step_ports h hr
  refine ⟨fun h8 hready => ?_, fun hskip => ?_⟩
  · have hwe : t.out.txWe = true := by rw [hports.txWe]; exact decide_eq_true ⟨hready, h8⟩
    refine ⟨(drainOne_mem_decode_iff hr hi.legal.seq_legal).2 ⟨hready, h8⟩, hwe, by rw [hports.txData, if_pos hwe],
      fun hev => ?_⟩
    obtain ⟨d, hd, hidx⟩ := step_txIdx_of_not_accepted h hr hev
    rw [hidx]
    exact hd.txIdx.1 h8 hready
  · refine ⟨?_, fun hev => ?_⟩
    · rw [hports.txWe]
      refine decide_eq_false fun ⟨hready, h8⟩ => hskip.elim h8 (by simp [hready])
    · obtain ⟨d, hd, hidx⟩ := step_txIdx_of_not_accepted h hr hev
      exact hidx.trans (hd.txIdx.2 hskip)

/-- Settles O56: the operation that fires picks the move. -/
theorem sequencerTransitions : Obligations.SequencerTransitions := by
  intro s t hi h
  refine ⟨fun hr => ?_, fun hr => ?_⟩
  · rw [step_of_rst hr] at h
    cases h
    rfl
  have h3 := hi.legal.seq_legal
  rw [sampleOpto_mem_decode_iff hr, sampleVolt_mem_decode_iff hr h3, sampleCurr_mem_decode_iff hr h3,
    convStart_or_wait_mem_decode_iff hr h3]
  cases step_sequencerMove h hr with
  | convert hn hseq hbusy =>
    have hnot {p : Prop} : ¬ (s.convBusy = true ∧ s.adcDone = true ∧ p) := fun ⟨hb, hd, _⟩ => hn ⟨hb, hd⟩
    exact ⟨fun ho => absurd ho hnot, fun hv => absurd hv hnot, fun hc => absurd hc hnot, fun _ _ _ => hseq,
      iff_of_true hbusy hn⟩
  | opto hb hd hs hseq hbusy => simp [hb, hd, hs, hseq, hbusy]
  | volt hb hd hs hseq hbusy => simp [hb, hd, hs, hseq, hbusy]
  | curr hb hd hs hseq hbusy => simp [hb, hd, hs, hseq, hbusy]

/-- Settles O57: a publish leaves SAMPLE_CURR three cycles away, and no cycle brings it nearer by more than one. -/
theorem publishToSendTakesFourCycles : Obligations.PublishToSendTakesFourCycles := by
  intro s t u n hi hst hp hrun hc
  have hui : u.Inv := runN_inv (everyStepKeepsTheInvariant s t hi hst) hrun
  have hle := runN_cyclesToCurr_le hrun
  rw [cyclesToCurr_of_publish hst hp, cyclesToCurr_of_sampleCurr hui.legal.seq_legal hc] at hle
  omega

/-- Settles O58: DRAIN_ONE and CONV_START complete and read no port but `tx_ready`. -/
theorem unrequestedCompletionIsDiscarded : Obligations.UnrequestedCompletionIsDiscarded := by
  intro s x done d t vs hi hb hr
  obtain ⟨e, he, _⟩ := drainOne_completes (s := (s.withPorts x vs).beginCycle) hi.legal.txIdx_le
  obtain ⟨_, _, ⟨hseq, _⟩, _⟩ := drainOne_unchanged he
  have hstep : step (s.withPorts x vs) = .next ({ e.emitStart with convBusy := true } : State).endCycle := by
    rw [step_of_convStart (hi.withPorts x vs) (by simpa using hr) hb, he, andThen_next]
  exact ⟨_, hstep, rfl, hseq, rfl, hseq,
    (step_of_convStart_congr (y := { x with adcDone := done, adcData := d, ts := t }) vs hi hb hr hr rfl).symm.trans hstep⟩

end Sys2Proof.Proofs
end

section
/-! SUPPORT. Where a cycle completes: every operation but RESERVED_SEQ answers a next state from a legal state, and a cycle runs
RESERVED_SEQ only where `seq = 3` (R183, R194). -/

namespace Sys2Proof.Machine

/-! ## The operations -/

/-- At capacity the sum covers the sample to evict, which is one of those it adds up (R38 item 4). -/
theorem State.Legal.oldest_le_sum {s : State} (hl : s.Legal) (hfull : s.count = s.params.win) : s.oldest.toNat ≤ s.sum := by
  have hslot : s.hidx ∈ Finset.range s.count := Finset.mem_range.2 (hfull ▸ hl.hidx_lt)
  rw [hl.sum_stored]
  exact Finset.single_le_sum (f := fun i => (s.hist.read i).toNat) (fun _ _ => Nat.zero_le _) hslot

theorem State.Legal.dcUpdate_completes {s : State} (hl : s.Legal) : ∃ t, dcUpdate s = .next t :=
  Machine.dcUpdate_completes hl.count_le hl.hidx_lt hl.oldest_le_sum

/-- Only DC_UPDATE, TRY_SEND, DRAIN_ONE and the two operations that begin with one of them have anything to refuse in their operands. -/
theorem State.Legal.exec_completes {s : State} (hl : s.Legal) {i : Instr} (hi : i ≠ .reservedSeq) :
    ∃ t, exec i s = .next t := by
  cases i with
  | reservedSeq => exact absurd rfl hi
  | drainOne =>
    obtain ⟨t, ht, _⟩ := drainOne_completes hl.txIdx_le
    exact ⟨t, ht⟩
  | dcUpdate => exact hl.dcUpdate_completes
  | sampleOpto =>
    obtain ⟨e, he⟩ := hl.dcUpdate_completes
    exact ⟨_, sampleOpto_of_dcUpdate he⟩
  | trySend => exact trySend_completes hl.txIdx_le
  | sampleCurr => exact sampleCurr_completes hl.txIdx_le
  | reset | convStart | ignoreDone | wait | sampleVolt | edgeDetect | periodObserve | frameEncode => exact ⟨_, rfl⟩

/-! ## The phases of a cycle -/

/-- The transmitter phase completes, and the sequencer phase starts in a legal state. -/
theorem State.Legal.drainOne_completes {s : State} (hl : s.Legal) : ∃ d, drainOne s = .next d ∧ d.Legal := by
  obtain ⟨d, hd, _⟩ := Machine.drainOne_completes hl.txIdx_le
  have hphase : DrainPhase s d := (drainOne_next hd).symm
  exact ⟨d, hd, hphase.legal hl⟩

/-- While a conversion runs, the sequencer phase is a single operation (R150). -/
theorem decode_of_convBusy {s : State} (hr : s.rst = false) (h3 : s.seq ≠ 3) (hb : s.convBusy = true) :
    ∃ i, i ≠ .reservedSeq ∧ decode s.dv = (if s.txReady && s.txPending then [.drainOne] else []) ++ [i] := by
  have hbusy : ¬ s.convBusy = false := by simp [hb]
  rw [decode_dv, if_neg (by simp [hr]), if_neg h3, if_neg hbusy]
  refine ⟨if s.adcDone = false then .wait else if s.seq = 0 then .sampleOpto else if s.seq = 1 then .sampleVolt
    else .sampleCurr, ?_, ?_⟩
  · split_ifs <;> decide
  · split_ifs <;> rfl

/-- A cycle that takes or awaits a conversion completes where the invariant holds. -/
theorem step_completes_of_convBusy {s : State} (hi : s.Inv) (hr : s.rst = false) (hb : s.convBusy = true) :
    ∃ t, step s = .next t := by
  obtain ⟨i, hne, hdecode⟩ := decode_of_convBusy hr hi.legal.seq_legal hb
  obtain ⟨d, hd, hl⟩ := State.Legal.drainOne_completes (s := s.beginCycle) { hi.legal with }
  obtain ⟨u, hu⟩ := hl.exec_completes hne
  refine ⟨u.endCycle, ?_⟩
  rw [step_eq_runOps (refusedCycle_eq_none (.inl hi)), hdecode, runOps_drain, hd, andThen_next, runOps_cons, hu]
  rfl

/-- So does one that starts a conversion: CONV_START has no operand to refuse. -/
theorem step_completes_of_not_convBusy {s : State} (hi : s.Inv) (hr : s.rst = false) (hb : s.convBusy = false) :
    ∃ t, step s = .next t := by
  obtain ⟨d, hd, _⟩ := State.Legal.drainOne_completes (s := s.beginCycle) { hi.legal with }
  exact ⟨_, by rw [step_of_convStart hi hr hb, hd, andThen_next]⟩

end Sys2Proof.Machine

namespace Sys2Proof.Proofs

open Sys2Proof.Machine

/-- Settles O33: RESET is the cycle's only operation, and it writes every register but the memories. -/
theorem resetCycleOverridesEverything : Obligations.ResetCycleOverridesEverything := fun _ hr => ⟨_, step_of_rst hr, rfl⟩

/-- Settles O34: a reset cycle completes in any state, and otherwise both phases complete in a legal one. -/
theorem everyLegalStateSteps : Obligations.EveryLegalStateSteps := by
  intro s hi
  cases hr : s.rst with
  | true => exact ⟨_, step_of_rst hr⟩
  | false =>
    cases hb : s.convBusy with
    | true => exact step_completes_of_convBusy hi hr hb
    | false => exact step_completes_of_not_convBusy hi hr hb

end Sys2Proof.Proofs
end

section
/-! SUPPORT. After reset and in the cycles where two parts of the block meet: the first edge after a quiet start, the last byte beside a
new frame, and the status one cycle behind the latch (R204, R209, R211). -/

namespace Sys2Proof.Machine

/-! ## Quiet cycles and the edge that ends them -/

/-- A cycle without edge and publish passes in silence for the monitor: source rule 3 would have published (R120). -/
theorem silentCycle_of_not_published {c d : State} (h : step c = .next d) (hr : c.rst = false) (he : ¬ c.edgeNow)
    (hp : d.out.pubValid = false) : c.SilentCycle c := by
  refine ⟨hr, he, fun ho => ?_⟩
  by_contra hn
  obtain ⟨hgt, ht⟩ := not_or.1 hn
  obtain ⟨hvalid, _⟩ := step_expires h ho he (by simpa using ht) (not_le.1 hgt)
  exact absurd (hvalid.symm.trans hp) (by decide)

/-- A run without reset, edge and publish leaves the monitor as it was. -/
theorem sameMonitor_of_quiet_run {n : Nat} {s a : State} (hrun : runN n s = .next a) (hfree : resetFree n s)
    (hquiet : ∀ k c d, k < n → runN k s = .next c → step c = .next d → ¬ c.edgeNow ∧ d.out.pubValid = false) :
    SameMonitor s a := by
  refine runN_induction (P := SameMonitor s) hrun ⟨rfl, rfl⟩ fun k c d hk hc hd ⟨hprev, htimed⟩ => ?_
  obtain ⟨he, hp⟩ := hquiet k c d hk hc hd
  obtain ⟨⟨hprev', htimed'⟩, _⟩ :=
    step_of_silent hd (silentCycle_of_not_published hd (rst_of_resetFree hfree hk hc) he hp)
  exact ⟨hprev'.trans hprev, htimed'.trans htimed⟩

/-- An edge moves the baseline to its sample and ends a timeout, whether it publishes or not (source rules 1 and 2). -/
theorem step_monitor_of_edge {s t : State} (h : step s = .next t) (he : s.edgeNow) :
    t.prevTs = s.ts ∧ t.timedOut = false := by
  obtain ⟨edge, event, hedge, hrule⟩ := step_opto_rule h he.1
  obtain ⟨hwake, hmeasure⟩ := hrule.of_edge (hedge.2 he)
  cases ht : s.timedOut with
  | true =>
    obtain ⟨htimed, hprev, _⟩ := hwake ht
    exact ⟨hprev, htimed⟩
  | false =>
    obtain ⟨htimed, hprev, _⟩ := hmeasure ht
    exact ⟨hprev, htimed⟩

/-! ## A frame accepted beside the last byte of another -/

/-- A frame accepted in a cycle with `rst = 0` does not touch the latch (R131, R134). -/
theorem step_failLatch_of_accepted {s t : State} (h : step s = .next t) (hr : s.rst = false) (hev : t.out.sendEv = 1) :
    t.failLatch = s.failLatch := by
  obtain hsame | ⟨_, hrejected⟩ := step_failLatch h hr
  · exact hsame
  · exact absurd (hrejected.symm.trans hev) (by decide)

/-- Where the last byte goes out in the cycle that accepts a frame, that frame is all there is left to send (R133, R204). -/
theorem step_frame_of_last_byte {s t : State} (hw : s.frame.wf = true) (h : step s = .next t) (hr : s.rst = false)
    (h7 : s.txIdx = 7) (hwe : t.out.txWe = true) (hdata : t.out.txData = s.frame.read 7) (hev : t.out.sendEv = 1) :
    t.frame.readFrom 0 8 = encodeFrame s.params.header s.frameFields := by
  have hsent : t.sentNow = s.unsent := by
    rw [State.sentNow, if_pos hwe, hdata, State.unsent, h7]
    rfl
  have haccepted : s.acceptedNow t = encodeFrame s.params.header s.frameFields := if_pos hev
  have hrest : t.unsent = t.frame.readFrom 0 8 := by
    rw [State.unsent, step_txIdx_of_accepted h hev]
    rfl
  have hstream := step_stream hw h hr
  rw [hsent, haccepted, hrest] at hstream
  exact List.append_cancel_left hstream

end Sys2Proof.Machine

namespace Sys2Proof.Proofs

open Sys2Proof.Machine

/-- Settles O30: the quiet run leaves the monitor as reset left it, and the edge follows source rule 1 or 2 as PM_TO_RESET says. -/
theorem firstEdgeAfterResetDependsOnParameters : Obligations.FirstEdgeAfterResetDependsOnParameters := by
  intro s a n hi hprev0 htimed0 hfree hrun hquiet he
  obtain ⟨hprev, htimed⟩ := sameMonitor_of_quiet_run hrun hfree hquiet
  have hai : a.Inv := runN_inv hi hrun
  have ⟨ho, _, t, ht, _⟩ := he
  obtain ⟨hr, _⟩ := (takesOpto_iff a).1 ho
  obtain ⟨hbase, hcleared⟩ := step_monitor_of_edge ht he
  obtain ⟨hpublished, hunpublished⟩ := pendingPeriodIsTheLastPublish a t hai ht hr
  obtain ⟨_, hmoves⟩ := sequencerTransitions a t hai ht
  obtain ⟨hopto, _⟩ := hmoves hr
  obtain ⟨_, hseq⟩ := hopto ho
  have hpub := step_publish_of_edge ht he
  rw [htimed.trans htimed0, hprev.trans hprev0] at hpub
  refine ⟨t, ht, hbase, hcleared, fun hone => ?_, fun hzero => ?_⟩
  · rw [if_pos hone] at hpub
    have hvalid : t.out.pubValid = false := congrArg Prod.fst hpub
    exact ⟨hpub, by rw [hseq, hvalid]; rfl, hunpublished hvalid⟩
  · rw [if_neg (by simp [hzero])] at hpub
    have hvalid : t.out.pubValid = true := congrArg Prod.fst hpub
    have hperiod : t.out.pubPeriod = tsdiff a.ts s.params.pmPrevReset := congrArg (·.2.2) hpub
    obtain ⟨hpending, hvolt⟩ := hpublished hvalid
    exact ⟨hpub, hvolt, hpending.trans hperiod⟩

/-- Settles O53: the drain comes first, so TRY_SEND finds the transmitter idle, and the byte stream of the cycle fixes the frame. -/
theorem drainOfLastByteFreesTheTransmitter : Obligations.DrainOfLastByteFreesTheTransmitter := by
  intro s hi hr h2 hb hd hready h7
  obtain ⟨t, ht⟩ := everyLegalStateSteps s hi
  have hports := step_ports ht hr
  have hwe : t.out.txWe = true := by rw [hports.txWe, hready, h7]; rfl
  have hdata : t.out.txData = s.frame.read 7 := by rw [hports.txData, if_pos hwe, h7]; rfl
  have hev : t.out.sendEv = 1 := by
    rw [hports.sendEv, if_pos ⟨hb, hd, h2⟩, if_pos (.inr ⟨h7, hready⟩)]
    rfl
  exact ⟨t, ht, hwe, hdata, hev, step_txIdx_of_accepted ht hev, step_failLatch_of_accepted ht hr hev,
    step_frame_of_last_byte hi.stored.frame_wf ht hr h7 hwe hdata hev⟩

/-- Settles O55: R38 item 9 holds before and after the step, and the port shows `status_q` as it stood before. -/
theorem statusOutputLagsByOneCycle : Obligations.StatusOutputLagsByOneCycle := by
  intro s t hi h
  have hti : t.Inv := everyStepKeepsTheInvariant s t hi h
  obtain ⟨_, hport, _⟩ := outputPortsOfACycle s t hi h
  exact ⟨hti.legal.status_latch, hport.trans hi.legal.status_latch⟩

end Sys2Proof.Proofs
end
